-- ==== Sys2Proof/Config.lean ====
section
/-! DEFINITION. Sys2Proof/Config.lean: what one implementation fixes (spec/00_scope.md section 4), and the free
values of the spec. A free value is an opaque constant: no proof can see what it is. -/

namespace Sys2Proof

/-! Protocol-layout parameters (R8, R9). -/

abbrev Config.bitWidth : Nat := 23
abbrev Config.cmdWidth : Nat := 8
abbrev Config.repeatBit : Nat := 8
abbrev Config.addrShift : Nat := 9
/-- `BIT_WIDTH - ADDR_SHIFT` = 14 (R9). -/
abbrev Config.addrWidth : Nat := Config.bitWidth - Config.addrShift
/-- 0x3FFF (R9). -/
abbrev Config.addrMask : Nat := 2 ^ Config.addrWidth - 1
/-- `ceil((BIT_WIDTH + 1) / 2)` = 12 (R8). -/
abbrev Config.minMarkCount : Nat := (Config.bitWidth + 1 + 1) / 2
/-- 14 (R8). -/
abbrev Config.rawlenMin : Nat := Config.minMarkCount + 2
/-- 48 (R8). -/
abbrev Config.rawlenMax : Nat := 2 * Config.bitWidth + 2
/-- The index of the first entry the sampler consumes (R8, D12). -/
abbrev Config.startOffset : Nat := 1

/-! Platform parameters (R10). -/

/-- The two platform parameters whose value the rules leave open: every operation takes them as an argument, which the
platform's part of the state carries unchanged (R10, I15; DESIGN CHOICE, notes/assumptions/1.md). -/
structure Params where
  /-- `DUR_W`: the width in bits of one raw duration, of `UNIT.T` and of `TOL.TOL`. -/
  durW : Nat
  /-- `MAX_UNITS`: the largest multiple of the unit an entry can be classified as. -/
  maxUnits : Nat
  deriving DecidableEq, Repr

/-- The reference configuration: `DUR_W` = 16 and `MAX_UNITS` = 2 (R10, D8, D14). -/
def Params.reference : Params where
  durW := 16
  maxUnits := 2

/-- `CAP_INDEX_W`: the rules assume 8, the width they give `RAWLEN.LEN` and the cursor (R10; spec/10_state.md R25, R41). -/
abbrev Config.capIndexW : Nat := 8

/-- `PROTOCOL_TAG`, which no source gives a value (R10, D19, I2): an open parameter
(notes/assumptions/4.md). -/
opaque Config.protocolTag : BitVec 8

/-- `MDEC_BASE`, where a platform puts the register space (R71, D2, I16): open, and no rule reads it. -/
opaque Config.mdecBase : Nat

/-- What capture entry `i` holds at power-up, before the capture agent first writes it, in its low `DUR_W` bits: any value
(R50, I4; notes/assumptions/2.md). -/
opaque Config.capPowerUp : Nat → Nat

/-- The `n`-th value a platform answers to a read of an entry it does not back, in its low `DUR_W` bits: a free draw at
each read (R72, I5; notes/assumptions/3.md). -/
opaque Config.capDraw : Nat → Nat

end Sys2Proof
end

