-- ==== Sys2Proof/Word.lean ====
section
/-! DEFINITION. Sys2Proof/Word.lean: the word types of MDEC. Every value is unsigned (spec/00_scope.md R12). -/

namespace Sys2Proof

/-- A register, or the data of one bus transaction: 32 bits (spec/10_state.md R21). -/
abbrev Word := BitVec 32

/-- An assembled frame value: `BIT_WIDTH` = 23 bits (spec/00_scope.md R8). -/
abbrev Raw := BitVec 23

/-- A capture index, a frame length or a bit count: 8 bits (spec/10_state.md R25, R41, R45). -/
abbrev Count := BitVec 8

end Sys2Proof
end

