-- ==== Sys2Proof/Syntax.lean ====
section
/-! DEFINITION. Sys2Proof/Syntax.lean: the codes of spec/30_encoding.md as names, and `Instr`, one constructor per row
of spec/opcode_table.json. -/

namespace Sys2Proof

/-- The 13 host-visible registers (spec/10_state.md R21). -/
inductive Reg where
  | cmd | status | config | rawlen | unit | tol | rawval | addr | command | rpt | bitcnt | proto | diag
  deriving DecidableEq, Repr

/-- The two physical carrier states (spec/00_scope.md R15). -/
inductive Level where
  | space | mark
  deriving DecidableEq, Repr

/-- What `Sample()` answers (spec/30_encoding.md R88). -/
inductive Sample where
  | space | mark | error | exhausted
  deriving DecidableEq, Repr

/-- The engine states; codes 5 to 7 are unreachable and left out (spec/30_encoding.md R87, R90; I12). -/
inductive Fsm where
  | idle | lenchk | start | pairA | pairB
  deriving DecidableEq, Repr

/-- `STATUS.RESULT` (spec/30_encoding.md R85). -/
inductive Result where
  | none | success | rejected | malformed
  deriving DecidableEq, Repr

/-- `DIAG.REASON`; codes 6 and 7 are never written and left out (spec/30_encoding.md R86; I13). -/
inductive Reason where
  | none | length | start | sampler | pair | bitcount
  deriving DecidableEq, Repr

/-- `CONFIG.LCM`, the length-check mode (spec/10_state.md R24). -/
inductive LenMode where
  | strict | permissive
  deriving DecidableEq, Repr

/-- The symbol of a pair of levels (spec/42_bit_assembly.md R146). -/
inductive PairSym where
  | bit0 | bit1 | invalid
  deriving DecidableEq, Repr

/-- One constructor per row of spec/opcode_table.json.
`lo` is the two ignored low bits of a bus offset (R62) and `wdata` the 32-bit write data (R81), both kept so that no bit
of a request is lost; `op` is a reserved command's whole code (R83); `a` is the first sample's code (R88); `value` is a
duration, of which an entry has room for `DUR_W` bits (R110). -/
inductive Instr where
  -- BUS reads (R100)
  | rdCmd (lo : BitVec 2)
  | rdStatus (lo : BitVec 2)
  | rdConfig (lo : BitVec 2)
  | rdRawlen (lo : BitVec 2)
  | rdUnit (lo : BitVec 2)
  | rdTol (lo : BitVec 2)
  | rdRawval (lo : BitVec 2)
  | rdAddr (lo : BitVec 2)
  | rdCommand (lo : BitVec 2)
  | rdRepeat (lo : BitVec 2)
  | rdBitcnt (lo : BitVec 2)
  | rdProto (lo : BitVec 2)
  | rdDiag (lo : BitVec 2)
  -- BUS writes (R83, R105 to R108)
  | wrCmd (lo : BitVec 2) (wdata : Word)
  | wrConfig (lo : BitVec 2) (wdata : Word)
  | wrRawlen (lo : BitVec 2) (wdata : Word)
  | wrUnit (lo : BitVec 2) (wdata : Word)
  | wrTol (lo : BitVec 2) (wdata : Word)
  -- BUS writes to read-only registers (R109)
  | wrRoStatus (lo : BitVec 2) (wdata : Word)
  | wrRoRawval (lo : BitVec 2) (wdata : Word)
  | wrRoAddr (lo : BitVec 2) (wdata : Word)
  | wrRoCommand (lo : BitVec 2) (wdata : Word)
  | wrRoRepeat (lo : BitVec 2) (wdata : Word)
  | wrRoBitcnt (lo : BitVec 2) (wdata : Word)
  | wrRoProto (lo : BitVec 2) (wdata : Word)
  | wrRoDiag (lo : BitVec 2) (wdata : Word)
  -- commands (R101 to R104)
  | nop
  | decode
  | clear
  | reserved03
  | reserved04 (op : BitVec 8)
  | reserved08 (op : BitVec 8)
  | reserved10 (op : BitVec 8)
  | reserved20 (op : BitVec 8)
  | reserved40 (op : BitVec 8)
  | reserved80 (op : BitVec 8)
  -- engine steps (R141 to R145)
  | fsmIdle
  | fsmLenchk
  | fsmStart
  | fsmPairA
  | fsmPairB
  -- pair words (R89, R145, R146)
  | pairBit0
  | pairBit1
  | pairBit1Tail
  | pairInvalidMM
  | pairInvalidSS
  | pairInvalidSTail
  | pairSamplerError (a : BitVec 2)
  -- the capture agent's write (R110)
  | capw (index : Count) (value : Nat)
  deriving DecidableEq, Repr

end Sys2Proof
end

