-- ==== Sys2Proof/WellFormed.lean ====
section
/-! DEFINITION. Sys2Proof/WellFormed.lean: which terms of `Instr` stand for a word of their row. -/

namespace Sys2Proof

/-- A reserved command's code lies in its row's range (spec/30_encoding.md R83, R90). -/
def opIn (lo hi : Nat) (op : BitVec 8) : Bool :=
  decide (lo ≤ op.toNat) && decide (op.toNat ≤ hi)

/-- The checks: a reserved command's code lies in its row's range, and the first sample of a pair is SPACE or MARK
(spec/30_encoding.md R88). Every other operand is legal at every value. -/
def wellFormed (i : Instr) : Bool :=
  match i with
  | .reserved04 op => opIn 0x04 0x07 op
  | .reserved08 op => opIn 0x08 0x0F op
  | .reserved10 op => opIn 0x10 0x1F op
  | .reserved20 op => opIn 0x20 0x3F op
  | .reserved40 op => opIn 0x40 0x7F op
  | .reserved80 op => opIn 0x80 0xFF op
  | .pairSamplerError a => decide (a.toNat ≤ 1)
  | .rdCmd _ | .rdStatus _ | .rdConfig _ | .rdRawlen _ | .rdUnit _ | .rdTol _ | .rdRawval _ | .rdAddr _
  | .rdCommand _ | .rdRepeat _ | .rdBitcnt _ | .rdProto _ | .rdDiag _ => true
  | .wrCmd _ _ | .wrConfig _ _ | .wrRawlen _ _ | .wrUnit _ _ | .wrTol _ _ => true
  | .wrRoStatus _ _ | .wrRoRawval _ _ | .wrRoAddr _ _ | .wrRoCommand _ _ | .wrRoRepeat _ _ | .wrRoBitcnt _ _
  | .wrRoProto _ _ | .wrRoDiag _ _ => true
  | .nop | .decode | .clear | .reserved03 => true
  | .fsmIdle | .fsmLenchk | .fsmStart | .fsmPairA | .fsmPairB => true
  | .pairBit0 | .pairBit1 | .pairBit1Tail | .pairInvalidMM | .pairInvalidSS | .pairInvalidSTail => true
  | .capw _ _ => true

end Sys2Proof
end

