-- ==== Sys2Proof/Decode.lean ====
section
/-! DEFINITION. Sys2Proof/Decode.lean: the four encodings of spec/30_encoding.md (BUS, CMD, FSM, PAIR) and the capture
agent's step, decoded by a total function and encoded from the same tables. -/

namespace Sys2Proof

/-- A word of one of the formats of R80, with the operands a format carries beside its word. -/
inductive Encoded where
  /-- A bus request `{rw, offset[7:0]}` with its write data, which a read ignores (R81). -/
  | bus (req : BitVec 9) (wdata : Word)
  /-- A command opcode, bits [7:0] of the data written to CMD (R82). -/
  | cmd (op : BitVec 8)
  /-- An engine state code (R87). -/
  | fsm (code : BitVec 3)
  /-- Two sample codes `{a, b}` (R89). -/
  | pair (word : BitVec 4)
  /-- The capture agent's write: no encoding of MDEC, only its operands (R80, R110). -/
  | cap (index : Count) (value : Nat)
  deriving DecidableEq, Repr

/-- Why a word selects no row. -/
inductive NoRow where
  /-- A read of an offset 0x34 to 0xFF (spec/20_memory.md R63). -/
  | unmappedRead
  /-- A write to an offset 0x34 to 0xFF (spec/20_memory.md R63). -/
  | unmappedWrite
  /-- An engine state code 5 to 7 (R87, R90). -/
  | unusedFsmCode
  /-- A pair whose first sample is neither SPACE nor MARK (R88, I14; DEDUCED, notes/assumptions/15.md). -/
  | firstSampleNoLevel
  deriving DecidableEq, Repr

/-- What decoding answers: a row of the table, or the name of the reason why there is none. -/
inductive Decoded where
  | instr (i : Instr)
  | noRow (why : NoRow)
  deriving DecidableEq, Repr

/-- The row decoded, if there is one. -/
def Decoded.toOption : Decoded → Option Instr
  | .instr i => some i
  | .noRow _ => none

/-! ### Codes -/

/-- The word number of a register, its offset divided by 4 (spec/20_memory.md R61). -/
def Reg.index : Reg → BitVec 6
  | .cmd => 0 | .status => 1 | .config => 2 | .rawlen => 3 | .unit => 4 | .tol => 5 | .rawval => 6
  | .addr => 7 | .command => 8 | .rpt => 9 | .bitcnt => 10 | .proto => 11 | .diag => 12

/-- The register at a word number, none where the offset is unmapped (spec/20_memory.md R61, R63). -/
def regOfIndex (k : BitVec 6) : Option Reg :=
  match k.toNat with
  | 0 => some .cmd
  | 1 => some .status
  | 2 => some .config
  | 3 => some .rawlen
  | 4 => some .unit
  | 5 => some .tol
  | 6 => some .rawval
  | 7 => some .addr
  | 8 => some .command
  | 9 => some .rpt
  | 10 => some .bitcnt
  | 11 => some .proto
  | 12 => some .diag
  | _ => none

/-- `h.fsm` codes (R87). -/
def Fsm.code : Fsm → BitVec 3
  | .idle => 0 | .lenchk => 1 | .start => 2 | .pairA => 3 | .pairB => 4

/-- The engine state of a code (R87). -/
def fsmOfCode (c : BitVec 3) : Option Fsm :=
  match c.toNat with
  | 0 => some .idle
  | 1 => some .lenchk
  | 2 => some .start
  | 3 => some .pairA
  | 4 => some .pairB
  | _ => none

/-- Sample codes (R88). -/
def Sample.code : Sample → BitVec 2
  | .space => 0 | .mark => 1 | .error => 2 | .exhausted => 3

/-- The sample of a code (R88). -/
def sampleOfCode (c : BitVec 2) : Sample :=
  match c.toNat with
  | 0 => .space
  | 1 => .mark
  | 2 => .error
  | _ => .exhausted

/-- A level as a sample (R88: the latch holds only SPACE or MARK). -/
def Level.toSample : Level → Sample
  | .space => .space
  | .mark => .mark

/-- `STATUS.RESULT` codes (R85). -/
def Result.code : Result → BitVec 2
  | .none => 0 | .success => 1 | .rejected => 2 | .malformed => 3

/-- `DIAG.REASON` codes (R86). -/
def Reason.code : Reason → BitVec 3
  | .none => 0 | .length => 1 | .start => 2 | .sampler => 3 | .pair => 4 | .bitcount => 5

/-- `CONFIG.LCM` as a bit (spec/10_state.md R24). -/
def LenMode.bit : LenMode → Bool
  | .strict => false
  | .permissive => true

/-- The mode of an LCM bit (spec/10_state.md R24). -/
def lenModeOfBit (b : Bool) : LenMode :=
  if b then .permissive else .strict

/-! ### Decoding -/

/-- The row of a read of a register (R81). -/
def readInstr (r : Reg) (lo : BitVec 2) : Instr :=
  match r with
  | .cmd => .rdCmd lo
  | .status => .rdStatus lo
  | .config => .rdConfig lo
  | .rawlen => .rdRawlen lo
  | .unit => .rdUnit lo
  | .tol => .rdTol lo
  | .rawval => .rdRawval lo
  | .addr => .rdAddr lo
  | .command => .rdCommand lo
  | .rpt => .rdRepeat lo
  | .bitcnt => .rdBitcnt lo
  | .proto => .rdProto lo
  | .diag => .rdDiag lo

/-- The row of a write to a register, `WR.RO.*` where the register is read-only (R81). -/
def writeInstr (r : Reg) (lo : BitVec 2) (wdata : Word) : Instr :=
  match r with
  | .cmd => .wrCmd lo wdata
  | .status => .wrRoStatus lo wdata
  | .config => .wrConfig lo wdata
  | .rawlen => .wrRawlen lo wdata
  | .unit => .wrUnit lo wdata
  | .tol => .wrTol lo wdata
  | .rawval => .wrRoRawval lo wdata
  | .addr => .wrRoAddr lo wdata
  | .command => .wrRoCommand lo wdata
  | .rpt => .wrRoRepeat lo wdata
  | .bitcnt => .wrRoBitcnt lo wdata
  | .proto => .wrRoProto lo wdata
  | .diag => .wrRoDiag lo wdata

/-- The bus request word `{rw, offset}`, the offset given as its word number and its two low bits (R80). -/
def busWord (write : Bool) (r : Reg) (lo : BitVec 2) : BitVec 9 :=
  BitVec.ofBool write ++ r.index ++ lo

/-- The row of a bus request (R81). -/
def decodeBus (req : BitVec 9) (wdata : Word) : Decoded :=
  match regOfIndex (req.extractLsb' 2 6) with
  | some r =>
    if req.getLsbD 8 then .instr (writeInstr r (req.extractLsb' 0 2) wdata)
    else .instr (readInstr r (req.extractLsb' 0 2))
  | none => if req.getLsbD 8 then .noRow .unmappedWrite else .noRow .unmappedRead

/-- The row of a command opcode (R83). -/
def decodeCmd (op : BitVec 8) : Instr :=
  if op.toNat = 0 then .nop
  else if op.toNat = 1 then .decode
  else if op.toNat = 2 then .clear
  else if op.toNat = 3 then .reserved03
  else if op.toNat ≤ 0x07 then .reserved04 op
  else if op.toNat ≤ 0x0F then .reserved08 op
  else if op.toNat ≤ 0x1F then .reserved10 op
  else if op.toNat ≤ 0x3F then .reserved20 op
  else if op.toNat ≤ 0x7F then .reserved40 op
  else .reserved80 op

/-- The engine step an engine state selects (R80, R92; spec/42_bit_assembly.md R140). -/
def engineInstr (f : Fsm) : Instr :=
  match f with
  | .idle => .fsmIdle
  | .lenchk => .fsmLenchk
  | .start => .fsmStart
  | .pairA => .fsmPairA
  | .pairB => .fsmPairB

/-- The row of an engine state code (R87). -/
def decodeFsm (c : BitVec 3) : Decoded :=
  match fsmOfCode c with
  | some f => .instr (engineInstr f)
  | none => .noRow .unusedFsmCode

/-- The row a latched first level and a second sample select (R89; spec/42_bit_assembly.md R145). -/
def pairInstr (a : Level) (b : Sample) : Instr :=
  match a, b with
  | .space, .mark => .pairBit0
  | .mark, .space => .pairBit1
  | .mark, .exhausted => .pairBit1Tail
  | .mark, .mark => .pairInvalidMM
  | .space, .space => .pairInvalidSS
  | .space, .exhausted => .pairInvalidSTail
  | a, .error => .pairSamplerError a.toSample.code

/-- The row of a pair word `{a, b}` (R89). -/
def decodePair (w : BitVec 4) : Decoded :=
  match sampleOfCode (w.extractLsb' 2 2) with
  | .space => .instr (pairInstr .space (sampleOfCode (w.extractLsb' 0 2)))
  | .mark => .instr (pairInstr .mark (sampleOfCode (w.extractLsb' 0 2)))
  | .error => .noRow .firstSampleNoLevel
  | .exhausted => .noRow .firstSampleNoLevel

/-- Decoding is total: every word selects one row, or is named as having none (R92). -/
def decode : Encoded → Decoded
  | .bus req wdata => decodeBus req wdata
  | .cmd op => .instr (decodeCmd op)
  | .fsm c => decodeFsm c
  | .pair w => decodePair w
  | .cap index value => .instr (.capw index value)

/-! ### Encoding -/

/-- The word of an instruction, from the tables of spec/30_encoding.md; a read carries no write data. -/
def encode (i : Instr) : Encoded :=
  match i with
  | .rdCmd lo => .bus (busWord false .cmd lo) 0
  | .rdStatus lo => .bus (busWord false .status lo) 0
  | .rdConfig lo => .bus (busWord false .config lo) 0
  | .rdRawlen lo => .bus (busWord false .rawlen lo) 0
  | .rdUnit lo => .bus (busWord false .unit lo) 0
  | .rdTol lo => .bus (busWord false .tol lo) 0
  | .rdRawval lo => .bus (busWord false .rawval lo) 0
  | .rdAddr lo => .bus (busWord false .addr lo) 0
  | .rdCommand lo => .bus (busWord false .command lo) 0
  | .rdRepeat lo => .bus (busWord false .rpt lo) 0
  | .rdBitcnt lo => .bus (busWord false .bitcnt lo) 0
  | .rdProto lo => .bus (busWord false .proto lo) 0
  | .rdDiag lo => .bus (busWord false .diag lo) 0
  | .wrCmd lo d => .bus (busWord true .cmd lo) d
  | .wrConfig lo d => .bus (busWord true .config lo) d
  | .wrRawlen lo d => .bus (busWord true .rawlen lo) d
  | .wrUnit lo d => .bus (busWord true .unit lo) d
  | .wrTol lo d => .bus (busWord true .tol lo) d
  | .wrRoStatus lo d => .bus (busWord true .status lo) d
  | .wrRoRawval lo d => .bus (busWord true .rawval lo) d
  | .wrRoAddr lo d => .bus (busWord true .addr lo) d
  | .wrRoCommand lo d => .bus (busWord true .command lo) d
  | .wrRoRepeat lo d => .bus (busWord true .rpt lo) d
  | .wrRoBitcnt lo d => .bus (busWord true .bitcnt lo) d
  | .wrRoProto lo d => .bus (busWord true .proto lo) d
  | .wrRoDiag lo d => .bus (busWord true .diag lo) d
  | .nop => .cmd 0x00
  | .decode => .cmd 0x01
  | .clear => .cmd 0x02
  | .reserved03 => .cmd 0x03
  | .reserved04 op => .cmd op
  | .reserved08 op => .cmd op
  | .reserved10 op => .cmd op
  | .reserved20 op => .cmd op
  | .reserved40 op => .cmd op
  | .reserved80 op => .cmd op
  | .fsmIdle => .fsm Fsm.idle.code
  | .fsmLenchk => .fsm Fsm.lenchk.code
  | .fsmStart => .fsm Fsm.start.code
  | .fsmPairA => .fsm Fsm.pairA.code
  | .fsmPairB => .fsm Fsm.pairB.code
  | .pairBit0 => .pair (Sample.space.code ++ Sample.mark.code)
  | .pairBit1 => .pair (Sample.mark.code ++ Sample.space.code)
  | .pairBit1Tail => .pair (Sample.mark.code ++ Sample.exhausted.code)
  | .pairInvalidMM => .pair (Sample.mark.code ++ Sample.mark.code)
  | .pairInvalidSS => .pair (Sample.space.code ++ Sample.space.code)
  | .pairInvalidSTail => .pair (Sample.space.code ++ Sample.exhausted.code)
  | .pairSamplerError a => .pair (a ++ Sample.error.code)
  | .capw index value => .cap index value

/-! ### Words as spec/opcode_table.json numbers them -/

/-- The word of `nbits` table bits `w`, its format told by its width: 3 bits FSM, 4 PAIR, 5 to 8 CMD, more BUS with the
write data from bit 16 on; no bits at all is the row CAPW, whose match and mask are 0 (R80; DESIGN CHOICE,
notes/assumptions/8.md). -/
def tableWord (nbits w : Nat) : Option Encoded :=
  if nbits = 0 then some (.cap 0 0)
  else if nbits ≤ 3 then (if w < 8 then some (.fsm (BitVec.ofNat 3 w)) else none)
  else if nbits = 4 then (if w < 16 then some (.pair (BitVec.ofNat 4 w)) else none)
  else if nbits ≤ 8 then (if w < 256 then some (.cmd (BitVec.ofNat 8 w)) else none)
  else if w / 512 % 128 = 0 then some (.bus (BitVec.ofNat 9 w) (BitVec.ofNat 32 (w / 65536)))
  else none

/-- The instruction the decoder reads from `nbits` table bits `w`; none where it refuses. -/
def decodeTableWord (nbits w : Nat) : Option Instr :=
  match tableWord nbits w with
  | some e => (decode e).toOption
  | none => none

end Sys2Proof
end

