-- ==== Sys2Proof/Machine/State.lean ====
section
/-! DEFINITION. Sys2Proof/Machine/State.lean: the state of MDEC and of its platform as plain data, the two reason types
of a stop, and the state after reset. -/

namespace Sys2Proof.Machine

/-- Why the machine stops with a fault: never. No error of MDEC stops it, none is a trap (spec/60_exceptions.md R170);
every offset and every capture index has a defined access (spec/20_memory.md R63, R72). No constructor, so nobody
raises one; that is safe (DEDUCED, notes/assumptions/14.md). -/
inductive Fault where
  deriving DecidableEq, Repr

/-- Why a step is refused. -/
inductive Refusal where
  /-- An instruction that has no meaning yet; raised by an arm of `exec` that rejects by name. Safe: the model stops. -/
  | notModelled (mnemonic : String)
  /-- A narrower-than-word access through a byte-lane bridge (spec/20_memory.md R68; I7); raised by `runTurn`.
  Safe: the spec says such an access is refused. -/
  | narrowAccess
  deriving DecidableEq, Repr

/-- One atomic step of an agent outside or inside MDEC, in the order the platform interleaves them
(spec/00_scope.md R14, R16; DESIGN CHOICE, notes/assumptions/5.md). -/
inductive Turn where
  /-- A bus transaction: request word and write data (spec/30_encoding.md R81). -/
  | bus (req : BitVec 9) (wdata : Word)
  /-- The capture agent writes one entry (spec/40_commands.md R110). -/
  | capw (index : Count) (value : Nat)
  /-- The platform resets MDEC (spec/70_reset_and_hazards.md R190). -/
  | reset
  /-- The engine takes its step (spec/42_bit_assembly.md R140). -/
  | engine
  /-- A narrower-than-word access of byte lane `lane` through a bridge (spec/20_memory.md R68). -/
  | narrow (req : BitVec 9) (lane : BitVec 2)
  deriving DecidableEq, Repr

/-- Capture memory: the entries the capture agent has written, as (index, duration) pairs with indices strictly rising.
The unit of the capture space is one entry (spec/20_memory.md R60). -/
abbrev Memory := List (Nat × Nat)

/-- The state. -/
structure State where
  /-- `STATUS.DONE` (R23). -/
  done : Bool
  /-- `STATUS.RESULT` (R23). -/
  result : Result
  /-- `STATUS.CMDERR` (R23). -/
  cmderr : Bool
  /-- `CONFIG.LCM` (R24). -/
  lcm : LenMode
  /-- `CONFIG.DIAG_EN` (R24). -/
  diagEn : Bool
  /-- `CONFIG.IE` (R24). -/
  ie : Bool
  /-- `RAWLEN.LEN` (R25). -/
  rawlen : Count
  /-- `UNIT.T`, the register's `DUR_W` stored bits; the reserved ones stay 0 (R26). -/
  unit : Word
  /-- `TOL.TOL`, the register's `DUR_W` stored bits; the reserved ones stay 0 (R27). -/
  tol : Word
  /-- `RAWVAL.VALUE` (R28). -/
  rawval : Raw
  /-- `DIAG.REASON` (R34). -/
  diagReason : Reason
  /-- `DIAG.POS` (R34). -/
  diagPos : Count
  /-- `DIAG.NBITS` (R34). -/
  diagNbits : Count
  /-- `h.fsm` (R40). -/
  fsm : Fsm
  /-- `h.off` (R41). -/
  off : Count
  /-- `h.used`, 0 to `MAX_UNITS - 1` (R42). -/
  used : Nat
  /-- `h.cur`, 0 to `MAX_UNITS`, 0 for "not yet classified" (R43). -/
  cur : Nat
  /-- `h.acc` (R44). -/
  acc : Raw
  /-- The storage of `h.nb`; in LENCHK and START it still keeps an earlier decode's count, and `bitsDecoded` is the value
  (R45, R47). -/
  nb : Count
  /-- `h.lvlA` (R46). -/
  lvlA : Level
  /-- The platform parameters, fixed for the life of the block: no step changes them, a reset neither (spec/00_scope.md
  R10, R17; DESIGN CHOICE, notes/assumptions/1.md). -/
  params : Params
  /-- `CAP`, the platform's (R48). -/
  cap : Memory
  /-- The capture indices the platform does not back (spec/20_memory.md R72); no step changes it
  (DESIGN CHOICE, notes/assumptions/3.md). -/
  unbacked : List Nat
  /-- The model's own: how many free draws reads of unbacked entries have taken (R72). -/
  draws : Nat
  /-- The bus's read data, the last word a bus read returned: the host's observation, no state of MDEC
  (R100; DESIGN CHOICE, notes/assumptions/6.md). -/
  rdata : Word
  /-- The model's own: the steps the platform takes next, in their order (spec/00_scope.md R14). -/
  inbox : List Turn
  deriving DecidableEq, Repr

/-- MDEC after reset (spec/10_state.md R50) in the reference configuration (spec/00_scope.md R10), nothing written to the
capture memory, all 256 entries backed and nothing pending from the host (DESIGN CHOICE, notes/assumptions/1.md, 3.md, 5.md
and 6.md). -/
def State.reset : State where
  done := false
  result := .none
  cmderr := false
  lcm := .strict
  diagEn := false
  ie := false
  rawlen := 0
  unit := 0
  tol := 0
  rawval := 0
  diagReason := .none
  diagPos := 0
  diagNbits := 0
  fsm := .idle
  off := 0
  used := 0
  cur := 0
  acc := 0
  nb := 0
  lvlA := .space
  params := Params.reference
  cap := []
  unbacked := []
  draws := 0
  rdata := 0
  inbox := []

end Sys2Proof.Machine
end

