-- ==== Sys2Proof/Machine/Operands.lean ====
section
/-! DEFINITION. Sys2Proof/Machine/Operands.lean: the register words a bus read returns, the fields a bus write stores,
and the fields of a frame value. -/

namespace Sys2Proof.Machine

/-- A field placed at bit `pos` of a register word, every other bit 0 (spec/30_encoding.md R84). -/
def place {n : Nat} (pos : Nat) (v : BitVec n) : Word :=
  v.setWidth 32 <<< pos

/-! ### Fields of a frame value (spec/42_bit_assembly.md R151) -/

/-- `(raw >> 9) & 0x3FFF`. -/
def addressOf (raw : Raw) : BitVec 14 :=
  ((raw >>> Config.addrShift) &&& BitVec.ofNat 23 Config.addrMask).setWidth 14

/-- Bit 8 of raw. -/
def repeatOf (raw : Raw) : Bool :=
  raw.getLsbD Config.repeatBit

/-- `raw & 0xFF`. -/
def commandOf (raw : Raw) : BitVec 8 :=
  (raw &&& BitVec.ofNat 23 (2 ^ Config.cmdWidth - 1)).setWidth 8

/-! ### Register words (spec/10_state.md R22 to R34) -/

/-- `STATUS.BUSY`, a view (R23). -/
def busy (s : State) : Bool :=
  decide (s.fsm ≠ .idle)

/-- STATUS (R23). -/
def statusWord (s : State) : Word :=
  place 0 (BitVec.ofBool (busy s)) ||| place 1 (BitVec.ofBool s.done) ||| place 2 s.result.code
    ||| place 4 (BitVec.ofBool s.cmderr)

/-- CONFIG (R24). -/
def configWord (s : State) : Word :=
  place 0 (BitVec.ofBool s.lcm.bit) ||| place 1 (BitVec.ofBool s.diagEn) ||| place 2 (BitVec.ofBool s.ie)

/-- BITCNT, a view of RESULT (R32). -/
def bitcntWord (s : State) : Word :=
  if s.result = .success then BitVec.ofNat 32 Config.bitWidth else 0

/-- PROTO, a view of RESULT (R33). -/
def protoWord (s : State) : Word :=
  if s.result = .success then place 0 Config.protocolTag else 0

/-- DIAG (R34). -/
def diagWord (s : State) : Word :=
  place 0 s.diagReason.code ||| place 8 s.diagPos ||| place 16 s.diagNbits

/-- The word a read of a register returns (spec/40_commands.md R100); CMD has no storage and reads 0 (R22). -/
def readWord (r : Reg) (s : State) : Word :=
  match r with
  | .cmd => 0
  | .status => statusWord s
  | .config => configWord s
  | .rawlen => place 0 s.rawlen
  | .unit => s.unit
  | .tol => s.tol
  | .rawval => place 0 s.rawval
  | .addr => place 0 (addressOf s.rawval)
  | .command => place 0 (commandOf s.rawval)
  | .rpt => place 0 (BitVec.ofBool (repeatOf s.rawval))
  | .bitcnt => bitcntWord s
  | .proto => protoWord s
  | .diag => diagWord s

/-- The low `n` bits of a number: `v[n-1:0]` (spec/00_scope.md R12). A raw duration is the natural number its `DUR_W` bits
stand for, and arithmetic on durations is on unbounded naturals (R12). -/
def lowBits (n v : Nat) : Nat :=
  v % 2 ^ n

/-! ### Fields of write data; the reserved bits are dropped (spec/10_state.md R36) -/

/-- `d[7:0]`: the opcode written to CMD, or `RAWLEN.LEN` (R22, R25). -/
def byteField (d : Word) : BitVec 8 :=
  d.setWidth 8

/-- `d[DUR_W-1:0]`: `UNIT.T` or `TOL.TOL` (R26, R27). -/
def durField (p : Params) (d : Word) : Word :=
  BitVec.ofNat 32 (lowBits p.durW d.toNat)

/-- `d[0]`: `CONFIG.LCM` (R24). -/
def lcmField (d : Word) : LenMode :=
  lenModeOfBit (d.getLsbD 0)

/-- `d[1]`: `CONFIG.DIAG_EN` (R24). -/
def diagEnField (d : Word) : Bool :=
  d.getLsbD 1

/-- `d[2]`: `CONFIG.IE` (R24). -/
def ieField (d : Word) : Bool :=
  d.getLsbD 2

/-! ### Byte lanes of a bridge (spec/20_memory.md R68) -/

/-- Byte `k` of a register word is bits [8k+7:8k]. -/
def laneByte (w : Word) (k : Fin 4) : BitVec 8 :=
  w.extractLsb' (8 * k.val) 8

/-- The register word of its four bytes, byte 0 first. -/
def wordOfLanes (b0 b1 b2 b3 : BitVec 8) : Word :=
  b3 ++ b2 ++ b1 ++ b0

end Sys2Proof.Machine
end

