-- ==== Sys2Proof/Machine/Flags.lean ====
section
/-! DEFINITION. Sys2Proof/Machine/Flags.lean: the flags of MDEC (spec/10_state.md R39): the interrupt output, the sticky
command error, and what acknowledging a completion clears. BUSY is `busy` of Operands.lean. -/

namespace Sys2Proof.Machine

/-- The interrupt output, a level: `STATUS.DONE and CONFIG.IE` (spec/60_exceptions.md R177). -/
def irq (s : State) : Bool :=
  s.done && s.ie

/-- A dropped or reserved host write: CMDERR is set and nothing else changes (spec/60_exceptions.md R173). -/
def setCmderr (s : State) : State :=
  { s with cmderr := true }

/-- The clearing that an accepted DECODE and an accepted CLEAR share: DONE, RESULT, RAWVAL and DIAG
(spec/40_commands.md R102, R103). -/
def clearResults (s : State) : State :=
  { s with
    done := false, result := .none, rawval := 0
    diagReason := .none, diagPos := 0, diagNbits := 0 }

end Sys2Proof.Machine
end

