-- ==== Sys2Proof/Machine/Ops.lean ====
section
/-! DEFINITION. Sys2Proof/Machine/Ops.lean: the named operations the meanings share: capture memory, the sampler, the
pure functions of the engine, completion and its acknowledgement, register accesses, reset, and placing an instruction
where the next step runs it. -/

namespace Sys2Proof.Machine

/-- Every meaning's outcome. -/
abbrev Out := Host.Outcome State Fault Refusal

/-! ### Capture memory -/

/-- The canonical form: indices strictly rising, each below 2^`CAP_INDEX_W` = 256 (spec/10_state.md R48). An index not
listed has not been written by the capture agent (DESIGN CHOICE, notes/assumptions/2.md). -/
def Memory.wf : Memory → Bool
  | [] => true
  | [(i, _)] => decide (i < 2 ^ Config.capIndexW)
  | (i, _) :: (j, w) :: m => decide (i < j) && Memory.wf ((j, w) :: m)

/-- What the capture agent last wrote to entry `i`, if anything. -/
def Memory.lookup (i : Nat) : Memory → Option Nat
  | [] => none
  | (j, w) :: m => if j = i then some w else Memory.lookup i m

/-- `CAP[i] <- v` (spec/40_commands.md R110). -/
def Memory.write (i : Nat) (v : Nat) : Memory → Memory
  | [] => [(i, v)]
  | (j, w) :: m =>
    if i < j then (i, v) :: (j, w) :: m
    else if i = j then (i, v) :: m
    else (j, w) :: Memory.write i v m

/-- What a backed entry holds: the last value written, or its free power-up value (spec/10_state.md R50; I4). -/
def capEntry (i : Nat) (s : State) : Nat :=
  match Memory.lookup i s.cap with
  | some v => v
  | none => lowBits s.params.durW (Config.capPowerUp i)

/-- Whether the platform backs entry `i` (spec/20_memory.md R72). -/
def backed (i : Nat) (s : State) : Bool :=
  decide (i ∉ s.unbacked)

/-- `MemRead(i, 1)` (spec/20_memory.md R64): the whole entry, or a free draw where the platform backs none (R72;
DESIGN CHOICE, notes/assumptions/3.md). -/
def capRead (i : Nat) (s : State) : Nat × State :=
  if backed i s then (capEntry i s, s)
  else (lowBits s.params.durW (Config.capDraw s.draws), { s with draws := s.draws + 1 })

/-- The capture agent's write; an entry has room for `DUR_W` bits (R110). -/
def storeCap (i : Count) (v : Nat) (s : State) : State :=
  { s with cap := Memory.write i.toNat (lowBits s.params.durW v) s.cap }

/-! ### The biphase sampler (spec/41_sampler.md) -/

/-- `level(i)`: MARK when i is odd, SPACE when i is even (R121). -/
def levelAt (i : Nat) : Level :=
  if i % 2 = 1 then .mark else .space

/-- `match(w, k)` for unit `t` and tolerance `e`, on unbounded naturals (R122). -/
def windowMatch (t e w k : Nat) : Bool :=
  decide (k * t ≤ w + e) && decide (w ≤ k * t + e)

/-- The least multiple in 1 to `n` = `MAX_UNITS` that matches, or none (R122, R124). -/
def classify (n t e w : Nat) : Option Nat :=
  (List.range' 1 n).find? (windowMatch t e w)

/-- The classification of an entry's duration with the registers and parameters as they stand (R122). -/
def classifyEntry (s : State) (w : Nat) : Option Nat :=
  classify s.params.maxUnits s.unit.toNat s.tol.toNat w

/-- The cursor after one unit of an entry of `k` units has been produced (R123). -/
def advance (k : Nat) (s : State) : State :=
  if k ≤ s.used + 1 then { s with used := 0, cur := 0, off := s.off + 1 }
  else { s with used := s.used + 1, cur := k }

/-- `Sample()`: one sample and the cursor after it (R123). -/
def sample (s : State) : Sample × State :=
  if s.rawlen.toNat ≤ s.off.toNat then (.exhausted, s)
  else if s.cur = 0 then
    match classifyEntry s (capRead s.off.toNat s).1 with
    | none => (.error, (capRead s.off.toNat s).2)
    | some k => ((levelAt s.off.toNat).toSample, advance k (capRead s.off.toNat s).2)
  else ((levelAt s.off.toNat).toSample, advance s.cur s)

/-! ### Pure functions of the engine (spec/42_bit_assembly.md) -/

/-- `length_rejects(L, mode)` (R149); PERMISSIVE is the source's check as written, which is never true. -/
def lengthRejects (l : Nat) (m : LenMode) : Bool :=
  match m with
  | .strict => decide (l < Config.rawlenMin) || decide (Config.rawlenMax < l)
  | .permissive => decide (l < Config.rawlenMin) && decide (Config.rawlenMax < l)

/-- `pair(a, b)` (R146). -/
def pairDecode (a b : Level) : PairSym :=
  match a, b with
  | .space, .mark => .bit0
  | .mark, .space => .bit1
  | .mark, .mark => .invalid
  | .space, .space => .invalid

/-- `accumulate(bit)`: modulo 2^`BIT_WIDTH` (R147). -/
def accumulate (bit : Bool) (s : State) : State :=
  { s with acc := (s.acc <<< 1) ||| (BitVec.ofBool bit).setWidth 23, nb := s.nb + 1 }

/-! ### Completion and acknowledgement: MDEC's trap entry and trap return (spec/60_exceptions.md R178, R179) -/

/-- The value of `h.nb`: the number of bits decoded so far in this decode (spec/10_state.md R45). Until START has written
it in this decode (R143) that is none, whatever count of an earlier decode the storage `nb` still keeps: no rule reads such
a stale value (spec/10_state.md R47; R158; DEDUCED, notes/assumptions/9.md). -/
def bitsDecoded (s : State) : Count :=
  match s.fsm with
  | .lenchk => 0
  | .start => 0
  | .idle => s.nb
  | .pairA => s.nb
  | .pairB => s.nb

/-- The DIAG writes of a completion, made only when `CONFIG.DIAG_EN` = 1 (spec/42_bit_assembly.md R154). -/
def writeDiag (result : Result) (reason : Reason) (s : State) : State :=
  if s.diagEn then
    { s with
      diagReason := reason
      diagPos := if result = .rejected then 0 else s.off
      diagNbits := if result = .rejected then 0 else bitsDecoded s }
  else s

/-- `complete(result, reason)`: the one operation that ends a decode (spec/42_bit_assembly.md R154). -/
def complete (result : Result) (reason : Reason) (s : State) : State :=
  { writeDiag result reason s with
    result := result
    done := true
    rawval := if result = .success then s.acc else 0
    fsm := .idle }

/-- DECODE: start one decode, or drop the command while BUSY (spec/40_commands.md R102). -/
def startDecode (s : State) : State :=
  if busy s then setCmderr s else { clearResults s with fsm := .lenchk }

/-- CLEAR: acknowledge and clear the results, or drop the command while BUSY (spec/40_commands.md R103). -/
def acknowledge (s : State) : State :=
  if busy s then setCmderr s else { clearResults s with cmderr := false }

/-- The command a write to CMD carries (spec/30_encoding.md R83). -/
def runCommand (op : BitVec 8) (s : State) : State :=
  if op.toNat = 0 then s
  else if op.toNat = 1 then startDecode s
  else if op.toNat = 2 then acknowledge s
  else setCmderr s

/-! ### Register accesses (spec/40_commands.md) -/

/-- A bus read puts the register's word on the bus and changes no state of MDEC (R100). -/
def busRead (r : Reg) (s : State) : State :=
  { s with rdata := readWord r s }

/-- A read of an unmapped offset returns 0 (spec/20_memory.md R63). -/
def busReadUnmapped (s : State) : State :=
  { s with rdata := 0 }

/-- WR CONFIG when not BUSY (R105). -/
def storeConfig (d : Word) (s : State) : State :=
  { s with lcm := lcmField d, diagEn := diagEnField d, ie := ieField d }

/-- WR RAWLEN when not BUSY (R106). -/
def storeRawlen (d : Word) (s : State) : State :=
  { s with rawlen := byteField d }

/-- WR UNIT when not BUSY (R107). -/
def storeUnit (d : Word) (s : State) : State :=
  { s with unit := durField s.params d }

/-- WR TOL when not BUSY (R108). -/
def storeTol (d : Word) (s : State) : State :=
  { s with tol := durField s.params d }

/-! ### Engine steps (spec/42_bit_assembly.md R142 to R145) -/

/-- The sampler's initialization and the move to START (R142). -/
def initCursor (s : State) : State :=
  { s with off := BitVec.ofNat 8 Config.startOffset, used := 0, cur := 0, fsm := .start }

/-- The accumulator's initialization and the move to PAIR_A (R143). -/
def initBits (s : State) : State :=
  { s with acc := 0, nb := 0, fsm := .pairA }

/-- The first sample latched for PAIR_B (R144). -/
def latchLevel (a : Level) (s : State) : State :=
  { s with lvlA := a, fsm := .pairB }

/-- A decoded bit: accumulated, and back to PAIR_A (R145). -/
def takeBit (bit : Bool) (s : State) : State :=
  { accumulate bit s with fsm := .pairA }

/-- What a pair symbol does in PAIR_B (R145). -/
def applyPair (p : PairSym) (s : State) : State :=
  match p with
  | .bit0 => takeBit false s
  | .bit1 => takeBit true s
  | .invalid => complete .malformed .pair s

/-- LENCHK (R142). -/
def lenchkStep (s : State) : State :=
  if lengthRejects s.rawlen.toNat s.lcm then complete .rejected .length s else initCursor s

/-- START once its sample `b` is taken (R143). -/
def startStep (b : Sample) (s : State) : State :=
  match b with
  | .error => complete .malformed .sampler s
  | .space => complete .malformed .start s
  | .exhausted => complete .malformed .start s
  | .mark => initBits s

/-- PAIR_A at the end of the frame: the bit-count check (R144, R148). -/
def finishFrame (s : State) : State :=
  if s.nb.toNat = Config.bitWidth then complete .success .none s else complete .malformed .bitcount s

/-- PAIR_A once its sample `a` is taken (R144). It is never EXHAUSTED, which R144 derives; the exhausted case is read as
the end of the frame (DEDUCED, notes/assumptions/10.md). -/
def firstHalf (a : Sample) (s : State) : State :=
  match a with
  | .error => complete .malformed .sampler s
  | .space => latchLevel .space s
  | .mark => latchLevel .mark s
  | .exhausted => finishFrame s

/-- PAIR_A (R144). -/
def pairAStep (s : State) : State :=
  if s.rawlen.toNat ≤ s.off.toNat then finishFrame s else firstHalf (sample s).1 (sample s).2

/-- PAIR_B once its sample `b` is taken: EXHAUSTED counts as SPACE (R145). -/
def secondHalf (b : Sample) (s : State) : State :=
  match b with
  | .error => complete .malformed .sampler s
  | .space => applyPair (pairDecode s.lvlA .space) s
  | .mark => applyPair (pairDecode s.lvlA .mark) s
  | .exhausted => applyPair (pairDecode s.lvlA .space) s

/-! ### Reset (spec/70_reset_and_hazards.md R190) -/

/-- Every register storage field and every hidden field takes its reset value; the platform's parameters and capture
memory, what it backs and what is still to come from the host stay, and so does the word last read from the bus. -/
def resetMdec (s : State) : State :=
  { State.reset with
    params := s.params, cap := s.cap, unbacked := s.unbacked, draws := s.draws, rdata := s.rdata, inbox := s.inbox }

/-! ### The platform's turns -/

/-- The state once its next turn has been taken from the list. -/
def dropTurn (s : State) : State :=
  { s with inbox := s.inbox.tail }

/-- A pending turn put before all others. -/
def pushTurn (t : Turn) (s : State) : State :=
  { s with inbox := t :: s.inbox }

/-- PAIR_B with its first level latched and a cursor whose next sample is `b`: what it takes for the next engine step to
decode the pair `{a, b}` (R145). -/
def stagePair (a : Level) (b : Sample) (s : State) : State :=
  match b with
  | .mark => { s with fsm := .pairB, lvlA := a, rawlen := 4, off := 3, used := 1, cur := 2 }
  | .space => { s with fsm := .pairB, lvlA := a, rawlen := 4, off := 2, used := 1, cur := 2 }
  | .exhausted => { s with fsm := .pairB, lvlA := a, rawlen := 4, off := 4, used := 0, cur := 0 }
  | .error =>
    { s with
      fsm := .pairB, lvlA := a, rawlen := 4, off := 3, used := 0, cur := 0, unit := 0, tol := 0
      cap := Memory.write 3 1 s.cap, unbacked := [] }

/-- The instruction of an encoded word set up so that the very next step runs it: a bus word and a command as a bus
transaction, CAPW as the capture agent's step, an engine state code as the engine's state and turn, a pair word as
PAIR_B about to decode it (DESIGN CHOICE, notes/assumptions/8.md). -/
def placeEncoded (e : Encoded) (s : State) : State :=
  match e with
  | .bus req wdata => pushTurn (.bus req wdata) s
  | .cmd op => pushTurn (.bus (busWord true .cmd 0) (op.setWidth 32)) s
  | .cap index value => pushTurn (.capw index value) s
  | .fsm c =>
    match fsmOfCode c with
    | some f => pushTurn .engine { s with fsm := f }
    | none => s
  | .pair w =>
    match sampleOfCode (w.extractLsb' 2 2) with
    | .space => pushTurn .engine (stagePair .space (sampleOfCode (w.extractLsb' 0 2)) s)
    | .mark => pushTurn .engine (stagePair .mark (sampleOfCode (w.extractLsb' 0 2)) s)
    | .error => s
    | .exhausted => s

/-- The instruction of `nbits` table bits `w` set up for the next step; nothing changes where the bits are no word. -/
def placeTableWord (nbits w : Nat) (s : State) : State :=
  match tableWord nbits w with
  | some e => placeEncoded e s
  | none => s

end Sys2Proof.Machine
end

