-- ==== Sys2Proof/Machine/Capture.lean ====
section
/-! DEFINITION. Sys2Proof/Machine/Capture.lean: the capture agent's write (spec/40_commands.md R110). -/

namespace Sys2Proof.Machine

/-- CAPW: `CAP[i] <- v`; MDEC does not observe it except through a later capture read (R110). -/
def execCapw (index : Count) (value : Nat) (s : State) : Out :=
  .next (storeCap index value s)

end Sys2Proof.Machine
end

