-- ==== Sys2Proof/Machine/Command.lean ====
section
/-! DEFINITION. Sys2Proof/Machine/Command.lean: the commands NOP, DECODE, CLEAR and the reserved opcodes
(spec/40_commands.md R101 to R104). -/

namespace Sys2Proof.Machine

/-- NOP: no state changes, not even while BUSY (R101). -/
def execNop (s : State) : Out :=
  .next s

/-- DECODE (R102). -/
def execDecode (s : State) : Out :=
  .next (startDecode s)

/-- CLEAR (R103). -/
def execClear (s : State) : Out :=
  .next (acknowledge s)

/-- Reserved op 0x03 (R104). -/
def execReserved03 (s : State) : Out :=
  .next (setCmderr s)

/-- Reserved ops 0x04 to 0x07 (R104). -/
def execReserved04 (_op : BitVec 8) (s : State) : Out :=
  .next (setCmderr s)

/-- Reserved ops 0x08 to 0x0F (R104). -/
def execReserved08 (_op : BitVec 8) (s : State) : Out :=
  .next (setCmderr s)

/-- Reserved ops 0x10 to 0x1F (R104). -/
def execReserved10 (_op : BitVec 8) (s : State) : Out :=
  .next (setCmderr s)

/-- Reserved ops 0x20 to 0x3F (R104). -/
def execReserved20 (_op : BitVec 8) (s : State) : Out :=
  .next (setCmderr s)

/-- Reserved ops 0x40 to 0x7F (R104). -/
def execReserved40 (_op : BitVec 8) (s : State) : Out :=
  .next (setCmderr s)

/-- Reserved ops 0x80 to 0xFF (R104). -/
def execReserved80 (_op : BitVec 8) (s : State) : Out :=
  .next (setCmderr s)

end Sys2Proof.Machine
end

