-- ==== Sys2Proof/Machine/Engine.lean ====
section
/-! DEFINITION. Sys2Proof/Machine/Engine.lean: the engine steps, one per engine state (spec/42_bit_assembly.md R140 to
R145). Each applies its rule in any state it is given (DESIGN CHOICE, notes/assumptions/12.md). -/

namespace Sys2Proof.Machine

/-- IDLE: the engine has no step, so its turn changes nothing (R141). -/
def execFsmIdle (s : State) : Out :=
  .next s

/-- LENCHK: frame-length validation and sampler initialization (R142). -/
def execFsmLenchk (s : State) : Out :=
  .next (lenchkStep s)

/-- START: consume and check the start-bit mark (R143). -/
def execFsmStart (s : State) : Out :=
  .next (startStep (sample s).1 (sample s).2)

/-- PAIR_A: end-of-frame test, or the first sample of a pair (R144). -/
def execFsmPairA (s : State) : Out :=
  .next (pairAStep s)

/-- PAIR_B: the second sample, the pair decode and the accumulation (R145). -/
def execFsmPairB (s : State) : Out :=
  .next (secondHalf (sample s).1 (sample s).2)

end Sys2Proof.Machine
end

