-- ==== Sys2Proof/Machine/Pair.lean ====
section
/-! DEFINITION. Sys2Proof/Machine/Pair.lean: what each pair word does once PAIR_B has taken its two samples
(spec/30_encoding.md R89; spec/42_bit_assembly.md R145, R146; DESIGN CHOICE, notes/assumptions/12.md). -/

namespace Sys2Proof.Machine

/-- SPACE, MARK: logical 0. -/
def execPairBit0 (s : State) : Out :=
  .next (applyPair (pairDecode .space .mark) s)

/-- MARK, SPACE: logical 1. -/
def execPairBit1 (s : State) : Out :=
  .next (applyPair (pairDecode .mark .space) s)

/-- MARK, EXHAUSTED counted as SPACE: logical 1 (R145). -/
def execPairBit1Tail (s : State) : Out :=
  .next (applyPair (pairDecode .mark .space) s)

/-- MARK, MARK: MALFORMED, reason PAIR. -/
def execPairInvalidMM (s : State) : Out :=
  .next (applyPair (pairDecode .mark .mark) s)

/-- SPACE, SPACE: MALFORMED, reason PAIR. -/
def execPairInvalidSS (s : State) : Out :=
  .next (applyPair (pairDecode .space .space) s)

/-- SPACE, EXHAUSTED counted as SPACE: MALFORMED, reason PAIR (R145). -/
def execPairInvalidSTail (s : State) : Out :=
  .next (applyPair (pairDecode .space .space) s)

/-- Second sample ERROR: MALFORMED, reason SAMPLER (R145). -/
def execPairSamplerError (_a : BitVec 2) (s : State) : Out :=
  .next (complete .malformed .sampler s)

end Sys2Proof.Machine
end

