-- ==== Sys2Proof/Machine/Read.lean ====
section
/-! DEFINITION. Sys2Proof/Machine/Read.lean: the bus reads RD.* (spec/40_commands.md R100), one meaning per register.
The two low offset bits are ignored (spec/20_memory.md R62). -/

namespace Sys2Proof.Machine

/-- RD CMD (R100, R22). -/
def execRdCmd (_lo : BitVec 2) (s : State) : Out :=
  .next (busRead .cmd s)

/-- RD STATUS (R100, R23). -/
def execRdStatus (_lo : BitVec 2) (s : State) : Out :=
  .next (busRead .status s)

/-- RD CONFIG (R100, R24). -/
def execRdConfig (_lo : BitVec 2) (s : State) : Out :=
  .next (busRead .config s)

/-- RD RAWLEN (R100, R25). -/
def execRdRawlen (_lo : BitVec 2) (s : State) : Out :=
  .next (busRead .rawlen s)

/-- RD UNIT (R100, R26). -/
def execRdUnit (_lo : BitVec 2) (s : State) : Out :=
  .next (busRead .unit s)

/-- RD TOL (R100, R27). -/
def execRdTol (_lo : BitVec 2) (s : State) : Out :=
  .next (busRead .tol s)

/-- RD RAWVAL (R100, R28). -/
def execRdRawval (_lo : BitVec 2) (s : State) : Out :=
  .next (busRead .rawval s)

/-- RD ADDR (R100, R29). -/
def execRdAddr (_lo : BitVec 2) (s : State) : Out :=
  .next (busRead .addr s)

/-- RD COMMAND (R100, R30). -/
def execRdCommand (_lo : BitVec 2) (s : State) : Out :=
  .next (busRead .command s)

/-- RD REPEAT (R100, R31). -/
def execRdRepeat (_lo : BitVec 2) (s : State) : Out :=
  .next (busRead .rpt s)

/-- RD BITCNT (R100, R32). -/
def execRdBitcnt (_lo : BitVec 2) (s : State) : Out :=
  .next (busRead .bitcnt s)

/-- RD PROTO (R100, R33). -/
def execRdProto (_lo : BitVec 2) (s : State) : Out :=
  .next (busRead .proto s)

/-- RD DIAG (R100, R34). -/
def execRdDiag (_lo : BitVec 2) (s : State) : Out :=
  .next (busRead .diag s)

end Sys2Proof.Machine
end

