-- ==== Sys2Proof/Machine/Write.lean ====
section
/-! DEFINITION. Sys2Proof/Machine/Write.lean: the bus writes WR.* and WR.RO.* (spec/40_commands.md). The two low offset
bits are ignored (spec/20_memory.md R62). -/

namespace Sys2Proof.Machine

/-- WR CMD: the write acts at once, as the command its low byte names (R22, R83; spec/30_encoding.md R82). -/
def execWrCmd (_lo : BitVec 2) (wdata : Word) (s : State) : Out :=
  .next (runCommand (byteField wdata) s)

/-- WR CONFIG (R105): dropped while BUSY. -/
def execWrConfig (_lo : BitVec 2) (wdata : Word) (s : State) : Out :=
  .next (if busy s then setCmderr s else storeConfig wdata s)

/-- WR RAWLEN (R106): dropped while BUSY. -/
def execWrRawlen (_lo : BitVec 2) (wdata : Word) (s : State) : Out :=
  .next (if busy s then setCmderr s else storeRawlen wdata s)

/-- WR UNIT (R107): dropped while BUSY. -/
def execWrUnit (_lo : BitVec 2) (wdata : Word) (s : State) : Out :=
  .next (if busy s then setCmderr s else storeUnit wdata s)

/-- WR TOL (R108): dropped while BUSY. -/
def execWrTol (_lo : BitVec 2) (wdata : Word) (s : State) : Out :=
  .next (if busy s then setCmderr s else storeTol wdata s)

/-- WR to read-only STATUS: no state changes (R109). -/
def execWrRoStatus (_lo : BitVec 2) (_wdata : Word) (s : State) : Out :=
  .next s

/-- WR to read-only RAWVAL: no state changes (R109). -/
def execWrRoRawval (_lo : BitVec 2) (_wdata : Word) (s : State) : Out :=
  .next s

/-- WR to read-only ADDR: no state changes (R109). -/
def execWrRoAddr (_lo : BitVec 2) (_wdata : Word) (s : State) : Out :=
  .next s

/-- WR to read-only COMMAND: no state changes (R109). -/
def execWrRoCommand (_lo : BitVec 2) (_wdata : Word) (s : State) : Out :=
  .next s

/-- WR to read-only REPEAT: no state changes (R109). -/
def execWrRoRepeat (_lo : BitVec 2) (_wdata : Word) (s : State) : Out :=
  .next s

/-- WR to read-only BITCNT: no state changes (R109). -/
def execWrRoBitcnt (_lo : BitVec 2) (_wdata : Word) (s : State) : Out :=
  .next s

/-- WR to read-only PROTO: no state changes (R109). -/
def execWrRoProto (_lo : BitVec 2) (_wdata : Word) (s : State) : Out :=
  .next s

/-- WR to read-only DIAG: no state changes (R109). -/
def execWrRoDiag (_lo : BitVec 2) (_wdata : Word) (s : State) : Out :=
  .next s

end Sys2Proof.Machine
end

