-- ==== Sys2Proof/Machine/Dispatch.lean ====
section
/-! DEFINITION. Sys2Proof/Machine/Dispatch.lean: one arm per constructor of Instr, each one call of its meaning. -/

namespace Sys2Proof.Machine

def exec (i : Instr) (s : State) : Host.Outcome State Fault Refusal :=
  match i with
  | .rdCmd lo => Sys2Proof.Machine.execRdCmd lo s
  | .rdStatus lo => Sys2Proof.Machine.execRdStatus lo s
  | .rdConfig lo => Sys2Proof.Machine.execRdConfig lo s
  | .rdRawlen lo => Sys2Proof.Machine.execRdRawlen lo s
  | .rdUnit lo => Sys2Proof.Machine.execRdUnit lo s
  | .rdTol lo => Sys2Proof.Machine.execRdTol lo s
  | .rdRawval lo => Sys2Proof.Machine.execRdRawval lo s
  | .rdAddr lo => Sys2Proof.Machine.execRdAddr lo s
  | .rdCommand lo => Sys2Proof.Machine.execRdCommand lo s
  | .rdRepeat lo => Sys2Proof.Machine.execRdRepeat lo s
  | .rdBitcnt lo => Sys2Proof.Machine.execRdBitcnt lo s
  | .rdProto lo => Sys2Proof.Machine.execRdProto lo s
  | .rdDiag lo => Sys2Proof.Machine.execRdDiag lo s
  | .wrCmd lo wdata => Sys2Proof.Machine.execWrCmd lo wdata s
  | .wrConfig lo wdata => Sys2Proof.Machine.execWrConfig lo wdata s
  | .wrRawlen lo wdata => Sys2Proof.Machine.execWrRawlen lo wdata s
  | .wrUnit lo wdata => Sys2Proof.Machine.execWrUnit lo wdata s
  | .wrTol lo wdata => Sys2Proof.Machine.execWrTol lo wdata s
  | .wrRoStatus lo wdata => Sys2Proof.Machine.execWrRoStatus lo wdata s
  | .wrRoRawval lo wdata => Sys2Proof.Machine.execWrRoRawval lo wdata s
  | .wrRoAddr lo wdata => Sys2Proof.Machine.execWrRoAddr lo wdata s
  | .wrRoCommand lo wdata => Sys2Proof.Machine.execWrRoCommand lo wdata s
  | .wrRoRepeat lo wdata => Sys2Proof.Machine.execWrRoRepeat lo wdata s
  | .wrRoBitcnt lo wdata => Sys2Proof.Machine.execWrRoBitcnt lo wdata s
  | .wrRoProto lo wdata => Sys2Proof.Machine.execWrRoProto lo wdata s
  | .wrRoDiag lo wdata => Sys2Proof.Machine.execWrRoDiag lo wdata s
  | .nop => Sys2Proof.Machine.execNop s
  | .decode => Sys2Proof.Machine.execDecode s
  | .clear => Sys2Proof.Machine.execClear s
  | .reserved03 => Sys2Proof.Machine.execReserved03 s
  | .reserved04 op => Sys2Proof.Machine.execReserved04 op s
  | .reserved08 op => Sys2Proof.Machine.execReserved08 op s
  | .reserved10 op => Sys2Proof.Machine.execReserved10 op s
  | .reserved20 op => Sys2Proof.Machine.execReserved20 op s
  | .reserved40 op => Sys2Proof.Machine.execReserved40 op s
  | .reserved80 op => Sys2Proof.Machine.execReserved80 op s
  | .fsmIdle => Sys2Proof.Machine.execFsmIdle s
  | .fsmLenchk => Sys2Proof.Machine.execFsmLenchk s
  | .fsmStart => Sys2Proof.Machine.execFsmStart s
  | .fsmPairA => Sys2Proof.Machine.execFsmPairA s
  | .fsmPairB => Sys2Proof.Machine.execFsmPairB s
  | .pairBit0 => Sys2Proof.Machine.execPairBit0 s
  | .pairBit1 => Sys2Proof.Machine.execPairBit1 s
  | .pairBit1Tail => Sys2Proof.Machine.execPairBit1Tail s
  | .pairInvalidMM => Sys2Proof.Machine.execPairInvalidMM s
  | .pairInvalidSS => Sys2Proof.Machine.execPairInvalidSS s
  | .pairInvalidSTail => Sys2Proof.Machine.execPairInvalidSTail s
  | .pairSamplerError a => Sys2Proof.Machine.execPairSamplerError a s
  | .capw index value => Sys2Proof.Machine.execCapw index value s

end Sys2Proof.Machine
end

