-- ==== Sys2Proof/Machine/Turns.lean ====
section
/-! DEFINITION. Sys2Proof/Machine/Turns.lean: how one turn of the platform is run: which agent moves, what it decodes and
what an access that selects no row does. -/

namespace Sys2Proof.Machine

/-- The engine's turn: the one step its state selects, none while IDLE (spec/42_bit_assembly.md R140, R141). -/
def engineTurn (s : State) : Out :=
  exec (engineInstr s.fsm) s

/-- A bus transaction: its row's meaning, or the defined effect of an unmapped offset (spec/20_memory.md R63). The two
other reasons are never a bus request's (`decodeBus`; DESIGN CHOICE, notes/assumptions/13.md). -/
def busTurn (req : BitVec 9) (wdata : Word) (s : State) : Out :=
  match decode (.bus req wdata) with
  | .instr i => exec i s
  | .noRow .unmappedRead => .next (busReadUnmapped s)
  | .noRow .unmappedWrite => .next s
  | .noRow .unusedFsmCode => .next s
  | .noRow .firstSampleNoLevel => .next s

/-- One turn (spec/00_scope.md R14). -/
def runTurn (t : Turn) (s : State) : Out :=
  match t with
  | .bus req wdata => busTurn req wdata s
  | .capw index value => exec (.capw index value) s
  | .reset => .next (resetMdec s)
  | .engine => engineTurn s
  | .narrow _ _ => .refused .narrowAccess

/-- The next atomic step: the first pending turn, and the engine's turn when nothing is pending, so that a BUSY engine
always comes to its step (spec/00_scope.md R14; spec/70_reset_and_hazards.md R205). -/
def runNext (s : State) : Out :=
  match s.inbox with
  | [] => engineTurn s
  | t :: _ => runTurn t (dropTurn s)

end Sys2Proof.Machine
end

