-- ==== Sys2Proof/Machine/Step.lean ====
section
/-! DEFINITION. Sys2Proof/Machine/Step.lean: one step of the machine, and the placing of an instruction where the next
step runs it. -/

namespace Sys2Proof.Machine

/-- One atomic step of a run (spec/00_scope.md R14). -/
def step (s : State) : Host.Outcome State Fault Refusal :=
  runNext s

/-- `s` with the instruction of `nbits` table bits `w` set up for the very next step (notes/assumptions/8.md). -/
def State.withFetchWord (s : State) (nbits w : Nat) : State :=
  placeTableWord nbits w s

end Sys2Proof.Machine
end

