-- ==== Sys2Proof/Safety.lean ====
section
/-! DEFINITION. Sys2Proof/Safety.lean: the terms claims about MDEC are stated in: a run, the invariants, and the captures of
the encoding convention (spec/95_test_vectors.md section 2). -/

namespace Sys2Proof.Machine

/-- `k` steps of the machine. With an empty inbox they are `k` engine steps (spec/00_scope.md R14). -/
abbrev stepN (k : Nat) (s : State) : Out :=
  Host.Core.run Sys2Proof.core k s

/-! ### Invariants -/

/-- All-or-nothing results (spec/10_state.md R35). -/
def AllOrNothing (s : State) : Prop :=
  s.result ≠ .success → s.rawval = 0

/-- A reason in DIAG goes with its outcome (spec/30_encoding.md R86); reason NONE is also what DIAG holds when
`CONFIG.DIAG_EN` was 0. -/
def DiagMatchesResult (s : State) : Prop :=
  match s.diagReason with
  | .none => True
  | .length => s.result = .rejected
  | .start => s.result = .malformed
  | .sampler => s.result = .malformed
  | .pair => s.result = .malformed
  | .bitcount => s.result = .malformed

/-- The result registers describe one finished decode or are all cleared (spec/10_state.md R23, R35;
spec/60_exceptions.md R178). -/
def ResultsOk (s : State) : Prop :=
  AllOrNothing s ∧ DiagMatchesResult s ∧ (s.done = true ↔ s.result ≠ .none) ∧
    (s.fsm ≠ .idle → s.done = false ∧ s.diagReason = .none ∧ s.diagPos = 0 ∧ s.diagNbits = 0)

/-- The cursor between two engine steps: at the start of an entry, or inside one of two to `MAX_UNITS` units that lies in
the frame (spec/10_state.md R41 to R43). -/
def CursorOk (s : State) : Prop :=
  (s.cur = 0 ∧ s.used = 0) ∨
    (1 ≤ s.used ∧ s.used < s.cur ∧ s.cur ≤ s.params.maxUnits ∧ s.off.toNat < s.rawlen.toNat)

/-- Unit samples the cursor has passed, counting each entry before it as `MAX_UNITS`: no fewer than were taken. -/
def unitsPassed (s : State) : Nat :=
  s.params.maxUnits * (s.off.toNat - 1) + s.used

/-- The engine's hidden state while a decode runs (spec/10_state.md R41 to R45; spec/42_bit_assembly.md R157). -/
def EngineOk (s : State) : Prop :=
  match s.fsm with
  | .idle => True
  | .lenchk => True
  | .start =>
    lengthRejects s.rawlen.toNat s.lcm = false ∧ s.off = 1 ∧ s.used = 0 ∧ s.cur = 0
  | .pairA =>
    lengthRejects s.rawlen.toNat s.lcm = false ∧ CursorOk s ∧ 1 ≤ s.off.toNat ∧ s.off.toNat ≤ s.rawlen.toNat ∧
      2 * s.nb.toNat ≤ unitsPassed s ∧ (s.off.toNat < s.rawlen.toNat → 2 * s.nb.toNat + 1 ≤ unitsPassed s)
  | .pairB =>
    lengthRejects s.rawlen.toNat s.lcm = false ∧ CursorOk s ∧ 1 ≤ s.off.toNat ∧ s.off.toNat ≤ s.rawlen.toNat ∧
      2 * s.nb.toNat + 2 ≤ unitsPassed s

/-- Every stored duration has room in its `DUR_W` bits: the reserved bits of UNIT and TOL are 0, and no capture entry is
wider (spec/10_state.md R26, R27, R48). -/
def DurationsFit (s : State) : Prop :=
  s.unit.toNat < 2 ^ s.params.durW ∧ s.tol.toNat < 2 ^ s.params.durW ∧ ∀ p ∈ s.cap, p.2 < 2 ^ s.params.durW

/-- Every invariant of the model together. -/
def Inv (s : State) : Prop :=
  Memory.wf s.cap = true ∧ DurationsFit s ∧ ResultsOk s ∧ EngineOk s

/-! ### The test tool's captures (spec/95_test_vectors.md section 2) -/

/-- A bit as two half-bit levels (spec/30_encoding.md R89). -/
def bitLevels (b : Bool) : List Level :=
  if b then [.mark, .space] else [.space, .mark]

/-- The 23 bits of a frame value, the most significant first. -/
def frameBits (v : Raw) : List Bool :=
  (List.range Config.bitWidth).map (fun k => v.getLsbD (Config.bitWidth - 1 - k))

/-- The levels of a frame: the start mark and then each bit. -/
def frameLevels (v : Raw) : List Level :=
  .mark :: (frameBits v).flatMap bitLevels

/-- The levels of a frame whose data pair `j`, counted from the first, has become the same-level pair `x`, `x`. -/
def corruptLevels (v : Raw) (j : Nat) (x : Level) : List Level :=
  .mark :: (frameBits v).zipIdx.flatMap (fun p => if p.2 = j then [x, x] else bitLevels p.1)

/-- A final SPACE runs into the silence after the frame and is not captured. -/
def dropFinalSpace (l : List Level) : List Level :=
  if l.getLast? = some .space then l.dropLast else l

/-- The lengths of the runs of equal neighbouring levels. -/
def runLengths : List Level → List Nat
  | [] => []
  | [_] => [1]
  | a :: b :: l =>
    match runLengths (b :: l) with
    | [] => [1]
    | n :: ns => if a = b then (n + 1) :: ns else 1 :: n :: ns

/-- The capture memory and RAWLEN hold the capture of these levels at unit `UNIT.T`: after the leading gap one entry per
run, of that many units. -/
def HoldsCapture (s : State) (l : List Level) : Prop :=
  s.rawlen.toNat = 1 + (runLengths l).length ∧
    ∀ i < (runLengths l).length,
      backed (i + 1) s = true ∧ capEntry (i + 1) s = (runLengths l).getD i 0 * s.unit.toNat

/-- The inputs of a decode agree (spec/42_bit_assembly.md R158): the registers it reads, and the capture entries
1 to `RAWLEN.LEN` - 1, which the platform backs, of two blocks of the same parameters. -/
def SameInputs (s t : State) : Prop :=
  s.params = t.params ∧ s.rawlen = t.rawlen ∧ s.unit = t.unit ∧ s.tol = t.tol ∧ s.lcm = t.lcm ∧ s.diagEn = t.diagEn ∧
    ∀ i < s.rawlen.toNat, 1 ≤ i → backed i s = true ∧ backed i t = true ∧ capEntry i s = capEntry i t

end Sys2Proof.Machine
end

