-- ==== Sys2Proof/Certificates/Slice0/Obligations.lean ====
section
/-! DEFINITION. Sys2Proof/Certificates/Slice0/Obligations.lean: the statements about the model, for the provers. -/

open Sys2Proof Sys2Proof.Machine

/-! ### Reset and steps -/

/-- R190, R50: a reset, at any point of a run, leaves every register reading 0, the engine IDLE, every hidden field 0,
`irq` low, and the capture memory as it was. -/
def Obligations.ResetClearsEverythingButCapture : Prop :=
  ∀ (s : State) (rest : List Turn), s.inbox = .reset :: rest →
    ∃ t, step s = .next t ∧ (∀ r, readWord r t = 0) ∧ irq t = false ∧
      t.done = false ∧ t.result = .none ∧ t.cmderr = false ∧ t.lcm = .strict ∧ t.diagEn = false ∧ t.ie = false ∧
      t.rawlen = 0 ∧ t.unit = 0 ∧ t.tol = 0 ∧ t.rawval = 0 ∧ t.diagReason = .none ∧ t.diagPos = 0 ∧ t.diagNbits = 0 ∧
      t.fsm = .idle ∧ t.off = 0 ∧ t.used = 0 ∧ t.cur = 0 ∧ t.acc = 0 ∧ t.nb = 0 ∧ t.lvlA = .space ∧
      t.cap = s.cap

/-- The model's own reading of a reset: the platform parameters and what the platform backs stay (notes/assumptions/1.md
and 3.md), as do the counter of free draws (3.md), the word last read from the bus (6.md) and the turns still to come
(5.md). -/
def Obligations.ResetKeepsThePlatformsOwnFields : Prop :=
  ∀ (s : State) (rest : List Turn), s.inbox = .reset :: rest →
    ∃ t, step s = .next t ∧ t.params = s.params ∧ t.unbacked = s.unbacked ∧ t.draws = s.draws ∧ t.rdata = s.rdata ∧
      t.inbox = rest

/-- The machine after reset, the model's capture memory with nothing written to it (notes/assumptions/2.md) and its
reference configuration (notes/assumptions/1.md), meets every invariant (R50). -/
def Obligations.ResetMeetsEveryInvariant : Prop :=
  Inv State.reset

/-- R14, R81, R110, R140, in the model's own form of an interleaving (the list of pending turns, and that with no turn
pending the engine moves, are the DESIGN CHOICE of notes/assumptions/5.md): each turn of the platform runs the instruction
it decodes to, on the state with that turn taken; with no turn pending the engine's step runs. -/
def Obligations.StepRunsTheDecodedInstruction : Prop :=
  (∀ (s : State) (req : BitVec 9) (d : Word) (rest : List Turn) (i : Instr),
    s.inbox = .bus req d :: rest → decode (.bus req d) = .instr i → step s = exec i { s with inbox := rest }) ∧
  (∀ (s : State) (k : Count) (v : Nat) (rest : List Turn) (i : Instr),
    s.inbox = .capw k v :: rest → decode (.cap k v) = .instr i → step s = exec i { s with inbox := rest }) ∧
  (∀ (s : State) (rest : List Turn) (i : Instr),
    s.inbox = .engine :: rest → decode (.fsm s.fsm.code) = .instr i → step s = exec i { s with inbox := rest }) ∧
  (∀ (s : State) (i : Instr),
    s.inbox = [] → decode (.fsm s.fsm.code) = .instr i → step s = exec i s)

/-- The model's own placing of a table word: the very next step runs the instruction the word decodes to; a pair word is
run by PAIR_B after its second sample. -/
def Obligations.PlacedTableWordRunsNext : Prop :=
  ∀ (s : State) (nbits w : Nat) (i : Instr), decodeTableWord nbits w = some i →
    (nbits ≠ 4 → step (s.withFetchWord nbits w) = exec i (dropTurn (s.withFetchWord nbits w))) ∧
    (nbits = 4 → step (s.withFetchWord nbits w) = exec i (sample (dropTurn (s.withFetchWord nbits w))).2)

/-- R170: no instruction stops MDEC. -/
def Obligations.EveryInstructionAnswersANextState : Prop :=
  ∀ (i : Instr) (s : State), ∃ t, exec i s = .next t

/-- R170, R68: a step stops only at a narrower-than-word access, which is refused. -/
def Obligations.StepStopsOnlyAtNarrowAccess : Prop :=
  (∀ s : State, (∀ req lane rest, s.inbox ≠ .narrow req lane :: rest) → ∃ t, step s = .next t) ∧
  (∀ (s : State) (req : BitVec 9) (lane : BitVec 2) (rest : List Turn),
    s.inbox = .narrow req lane :: rest → step s = .refused .narrowAccess)

/-! ### Encodings -/

/-- R80 to R89: decoding the encoding of a well-formed instruction gives it back, every operand at every value. -/
def Obligations.DecodeOfEncodeGivesTheInstruction : Prop :=
  ∀ i : Instr, wellFormed i = true → decode (encode i) = .instr i

/-- R80 to R89: a word that selects a row is the word that row's instruction encodes to, and what it selects is well
formed. A read is the exception: it carries no write data, so it encodes with data 0 whatever stood beside its word (the
model's own reading, DEDUCED, notes/assumptions/19.md). -/
def Obligations.EncodeOfDecodeGivesTheWord : Prop :=
  ∀ (e : Encoded) (i : Instr), decode e = .instr i →
    wellFormed i = true ∧
    match e with
    | .bus req d => encode i = .bus req (if req.getLsbD 8 then d else 0)
    | .cmd op => encode i = .cmd op
    | .fsm c => encode i = .fsm c
    | .pair w => encode i = .pair w
    | .cap k v => encode i = .cap k v

/-- R92: every word of every format selects exactly one row or is named as selecting none. That the eight PAIR words whose
first sample is ERROR or EXHAUSTED select none is the model's own reading (DEDUCED, notes/assumptions/15.md). -/
def Obligations.EveryWordSelectsOneRow : Prop :=
  (∀ (req : BitVec 9) (d : Word),
    (req.toNat % 256 < 0x34 → ∃ r : Reg, 4 * r.index.toNat = req.toNat % 256 / 4 * 4 ∧
      decode (.bus req d) =
        .instr (if 256 ≤ req.toNat then writeInstr r (BitVec.ofNat 2 req.toNat) d
          else readInstr r (BitVec.ofNat 2 req.toNat))) ∧
    (0x34 ≤ req.toNat % 256 →
      decode (.bus req d) = .noRow (if 256 ≤ req.toNat then .unmappedWrite else .unmappedRead))) ∧
  (∀ op : BitVec 8,
    (op.toNat = 0 → decode (.cmd op) = .instr .nop) ∧ (op.toNat = 1 → decode (.cmd op) = .instr .decode) ∧
    (op.toNat = 2 → decode (.cmd op) = .instr .clear) ∧
    (3 ≤ op.toNat → ∃ i, decode (.cmd op) = .instr i ∧
      i ∈ [.reserved03, .reserved04 op, .reserved08 op, .reserved10 op, .reserved20 op, .reserved40 op, .reserved80 op])) ∧
  (∀ f : Fsm, decode (.fsm f.code) = .instr (engineInstr f)) ∧
  (∀ c : BitVec 3, 5 ≤ c.toNat → decode (.fsm c) = .noRow .unusedFsmCode) ∧
  (∀ (a : Level) (b : Sample), decode (.pair (a.toSample.code ++ b.code)) = .instr (pairInstr a b)) ∧
  (∀ w : BitVec 4, 8 ≤ w.toNat → decode (.pair w) = .noRow .firstSampleNoLevel)

/-- R81, R83, R87, R89: words written out from the spec's tables decode to what they stand for. -/
def Obligations.WordsWrittenFromTheSpecDecode : Prop :=
  decode (.bus 0b000001000 0) = .instr (.rdConfig 0) ∧
  decode (.bus 0b100001110 5) = .instr (.wrRawlen 0b10 5) ∧
  decode (.bus 0b100000100 7) = .instr (.wrRoStatus 0 7) ∧
  decode (.cmd 0b00000001) = .instr .decode ∧
  decode (.cmd 0b10000000) = .instr (.reserved80 0x80) ∧
  decode (.fsm 0b011) = .instr .fsmPairA ∧
  decode (.pair 0b0100) = .instr .pairBit1

/-- R62, R69: bits [1:0] of the offset are ignored. -/
def Obligations.OffsetLowBitsAreIgnored : Prop :=
  ∀ (s : State) (req req' : BitVec 9) (d : Word) (rest : List Turn),
    s.inbox = .bus req d :: rest → req.toNat / 4 = req'.toNat / 4 →
      step s = step { s with inbox := .bus req' d :: rest }

/-- R63: a read of an unmapped offset returns 0, and a write to one has no effect. -/
def Obligations.UnmappedOffsetsReadZeroAndIgnoreWrites : Prop :=
  ∀ (s : State) (req : BitVec 9) (d : Word) (rest : List Turn),
    s.inbox = .bus req d :: rest → 0x34 ≤ req.toNat % 256 →
      (req.toNat < 256 → step s = .next { s with rdata := 0, inbox := rest }) ∧
      (256 ≤ req.toNat → step s = .next { s with inbox := rest })

/-! ### Bus reads -/

/-- R23, R85, R100: RD STATUS returns BUSY, DONE, RESULT and CMDERR at their bits, every other bit 0, and changes no
state of MDEC. -/
def Obligations.ReadStatusPlacesItsFields : Prop :=
  ∀ (lo : BitVec 2) (s : State), ∃ w : Word, exec (.rdStatus lo) s = .next { s with rdata := w } ∧
    w.toNat = (if s.fsm = .idle then 0 else 1) + (if s.done then 2 else 0) +
      (match s.result with
        | .none => 0
        | .success => 4
        | .rejected => 8
        | .malformed => 12) +
      (if s.cmderr then 16 else 0)

/-- R22, R24 to R27, R100: RD CMD returns 0; RD CONFIG, RAWLEN, UNIT and TOL return the fields stored there, every other
bit 0; none changes any state of MDEC. -/
def Obligations.ReadInputRegistersReturnTheirFields : Prop :=
  ∀ (lo : BitVec 2) (s : State),
    exec (.rdCmd lo) s = .next { s with rdata := 0 } ∧
    (∃ w : Word, exec (.rdConfig lo) s = .next { s with rdata := w } ∧
      w.toNat = (if s.lcm = .permissive then 1 else 0) + (if s.diagEn then 2 else 0) + (if s.ie then 4 else 0)) ∧
    (∃ w : Word, exec (.rdRawlen lo) s = .next { s with rdata := w } ∧ w.toNat = s.rawlen.toNat) ∧
    (∃ w : Word, exec (.rdUnit lo) s = .next { s with rdata := w } ∧ w.toNat = s.unit.toNat) ∧
    (∃ w : Word, exec (.rdTol lo) s = .next { s with rdata := w } ∧ w.toNat = s.tol.toNat)

/-- R28 to R31, R100: RD RAWVAL returns the value; ADDR, COMMAND and REPEAT are views of it: bits 22..9, 7..0 and 8. -/
def Obligations.ReadResultRegistersReturnFieldsOfRawval : Prop :=
  ∀ (lo : BitVec 2) (s : State),
    (∃ w : Word, exec (.rdRawval lo) s = .next { s with rdata := w } ∧ w.toNat = s.rawval.toNat) ∧
    (∃ w : Word, exec (.rdAddr lo) s = .next { s with rdata := w } ∧ w.toNat = s.rawval.toNat / 2 ^ 9) ∧
    (∃ w : Word, exec (.rdCommand lo) s = .next { s with rdata := w } ∧ w.toNat = s.rawval.toNat % 2 ^ 8) ∧
    (∃ w : Word, exec (.rdRepeat lo) s = .next { s with rdata := w } ∧ w.toNat = s.rawval.toNat / 2 ^ 8 % 2)

/-- R32, R33, R100: BITCNT and PROTO are views of RESULT. The value of PROTO on SUCCESS is the open parameter
`PROTOCOL_TAG`, for every value of it. -/
def Obligations.ReadBitcntAndProtoFollowTheResult : Prop :=
  ∀ (lo : BitVec 2) (s : State),
    (∃ w : Word, exec (.rdBitcnt lo) s = .next { s with rdata := w } ∧
      w.toNat = if s.result = .success then 23 else 0) ∧
    (∃ w : Word, exec (.rdProto lo) s = .next { s with rdata := w } ∧
      w.toNat = if s.result = .success then Config.protocolTag.toNat else 0)

/-- R34, R86, R100: RD DIAG returns REASON, POS and NBITS at their bits, every other bit 0. -/
def Obligations.ReadDiagPlacesItsFields : Prop :=
  ∀ (lo : BitVec 2) (s : State), ∃ w : Word, exec (.rdDiag lo) s = .next { s with rdata := w } ∧
    w.toNat =
      (match s.diagReason with
        | .none => 0
        | .length => 1
        | .start => 2
        | .sampler => 3
        | .pair => 4
        | .bitcount => 5) +
      2 ^ 8 * s.diagPos.toNat + 2 ^ 16 * s.diagNbits.toNat

/-- R152: the three field registers rebuild RAWVAL and share no bit. -/
def Obligations.FieldsPartitionRawval : Prop :=
  ∀ s : State,
    (readWord .addr s <<< 9) ||| (readWord .rpt s <<< 8) ||| readWord .command s = readWord .rawval s ∧
    (readWord .addr s <<< 9) &&& (readWord .rpt s <<< 8) = 0 ∧
    (readWord .addr s <<< 9) &&& readWord .command s = 0 ∧
    (readWord .rpt s <<< 8) &&& readWord .command s = 0

/-- R35: wherever the results are all-or-nothing, a result other than SUCCESS leaves RAWVAL and its views reading 0. -/
def Obligations.NoSuccessReadsAllResultsZero : Prop :=
  ∀ s : State, AllOrNothing s → s.result ≠ .success →
    ∀ r ∈ [Reg.rawval, .addr, .command, .rpt, .bitcnt, .proto], readWord r s = 0

/-! ### Bus writes and commands -/

/-- R105 to R108: a write of CONFIG, RAWLEN, UNIT or TOL while not BUSY stores the register's fields of the data, drops
every other bit, and changes nothing else; UNIT and TOL store `d[DUR_W-1:0]`, for every `DUR_W`. -/
def Obligations.IdleWritesStoreTheirFields : Prop :=
  ∀ (lo : BitVec 2) (d : Word) (s : State), s.fsm = .idle →
    exec (.wrConfig lo d) s = .next
      { s with
        lcm := if d.toNat % 2 = 1 then .permissive else .strict
        diagEn := decide (d.toNat / 2 % 2 = 1)
        ie := decide (d.toNat / 4 % 2 = 1) } ∧
    exec (.wrRawlen lo d) s = .next { s with rawlen := BitVec.ofNat 8 d.toNat } ∧
    exec (.wrUnit lo d) s = .next { s with unit := BitVec.ofNat 32 (d.toNat % 2 ^ s.params.durW) } ∧
    exec (.wrTol lo d) s = .next { s with tol := BitVec.ofNat 32 (d.toNat % 2 ^ s.params.durW) }

/-- R111, R105 to R108: a register write while BUSY is dropped and changes nothing but CMDERR. -/
def Obligations.BusyWritesOnlySetCmderr : Prop :=
  ∀ (lo : BitVec 2) (d : Word) (s : State), s.fsm ≠ .idle →
    exec (.wrConfig lo d) s = .next { s with cmderr := true } ∧
    exec (.wrRawlen lo d) s = .next { s with cmderr := true } ∧
    exec (.wrUnit lo d) s = .next { s with cmderr := true } ∧
    exec (.wrTol lo d) s = .next { s with cmderr := true }

/-- R36, R73, R84: after a write of an input register while not BUSY, a read of it returns the data with the reserved
bits 0, for every `DUR_W`. -/
def Obligations.ReadAfterWriteDropsReservedBits : Prop :=
  ∀ (lo : BitVec 2) (d : Word) (s : State), s.fsm = .idle →
    (∃ t, exec (.wrConfig lo d) s = .next t ∧ readWord .config t = d &&& 0x7) ∧
    (∃ t, exec (.wrRawlen lo d) s = .next t ∧ readWord .rawlen t = d &&& 0xFF) ∧
    (∃ t, exec (.wrUnit lo d) s = .next t ∧ (readWord .unit t).toNat = d.toNat % 2 ^ s.params.durW) ∧
    (∃ t, exec (.wrTol lo d) s = .next t ∧ (readWord .tol t).toNat = d.toNat % 2 ^ s.params.durW)

/-- R109, R101: a write to a read-only register and a NOP change nothing at all, BUSY or not. -/
def Obligations.ReadOnlyWritesAndNopChangeNothing : Prop :=
  ∀ (lo : BitVec 2) (d : Word) (s : State),
    exec (.wrRoStatus lo d) s = .next s ∧ exec (.wrRoRawval lo d) s = .next s ∧ exec (.wrRoAddr lo d) s = .next s ∧
    exec (.wrRoCommand lo d) s = .next s ∧ exec (.wrRoRepeat lo d) s = .next s ∧ exec (.wrRoBitcnt lo d) s = .next s ∧
    exec (.wrRoProto lo d) s = .next s ∧ exec (.wrRoDiag lo d) s = .next s ∧ exec .nop s = .next s

/-- R82, R83, R22: a write to CMD answers what the command of its low byte answers, whatever bits [31:8] hold. -/
def Obligations.WriteToCmdRunsTheCommandOfItsLowByte : Prop :=
  ∀ (lo : BitVec 2) (d : Word) (i : Instr) (s : State),
    decode (.cmd (BitVec.ofNat 8 d.toNat)) = .instr i →
      ∃ t, exec (.wrCmd lo d) s = .next t ∧ exec i s = .next t

/-- R102: an accepted DECODE clears the results, keeps CMDERR and starts the engine at LENCHK; a DECODE while BUSY is
dropped and only sets CMDERR. -/
def Obligations.DecodeCommandStartsOrIsDropped : Prop :=
  ∀ s : State,
    (s.fsm = .idle → exec .decode s = .next
      { s with
        done := false, result := .none, rawval := 0, diagReason := .none, diagPos := 0, diagNbits := 0
        fsm := .lenchk }) ∧
    (s.fsm ≠ .idle → exec .decode s = .next { s with cmderr := true })

/-- R103: an accepted CLEAR clears the results and CMDERR; a CLEAR while BUSY is dropped and only sets CMDERR. -/
def Obligations.ClearCommandAcknowledgesOrIsDropped : Prop :=
  ∀ s : State,
    (s.fsm = .idle → exec .clear s = .next
      { s with
        done := false, result := .none, rawval := 0, diagReason := .none, diagPos := 0, diagNbits := 0
        cmderr := false }) ∧
    (s.fsm ≠ .idle → exec .clear s = .next { s with cmderr := true })

/-- R104: every reserved command only sets CMDERR, BUSY or not, and every opcode 0x03 to 0xFF is one. -/
def Obligations.ReservedCommandsOnlySetCmderr : Prop :=
  ∀ (op : BitVec 8) (s : State),
    exec .reserved03 s = .next { s with cmderr := true } ∧ exec (.reserved04 op) s = .next { s with cmderr := true } ∧
    exec (.reserved08 op) s = .next { s with cmderr := true } ∧ exec (.reserved10 op) s = .next { s with cmderr := true } ∧
    exec (.reserved20 op) s = .next { s with cmderr := true } ∧ exec (.reserved40 op) s = .next { s with cmderr := true } ∧
    exec (.reserved80 op) s = .next { s with cmderr := true } ∧
    (3 ≤ op.toNat → ∃ i, decode (.cmd op) = .instr i ∧ exec i s = .next { s with cmderr := true })

/-- R173: CMDERR becomes 1 by exactly the listed host writes, which change nothing else, and becomes 0 only by an
accepted CLEAR or a reset. -/
def Obligations.CmderrIsSetAndClearedOnlyAsListed : Prop :=
  ∀ s t : State, step s = .next t →
    (s.cmderr = false →
      ((t.cmderr = true ↔ ∃ req d rest, s.inbox = Turn.bus req d :: rest ∧
          ((req.toNat / 4 = 64 ∧ (3 ≤ d.toNat % 256 ∨ ((d.toNat % 256 = 1 ∨ d.toNat % 256 = 2) ∧ s.fsm ≠ .idle))) ∨
            (66 ≤ req.toNat / 4 ∧ req.toNat / 4 ≤ 69 ∧ s.fsm ≠ .idle))) ∧
        (t.cmderr = true → t = { s with cmderr := true, inbox := s.inbox.tail }))) ∧
    (s.cmderr = true → t.cmderr = false →
      (∃ rest, s.inbox = .reset :: rest) ∨
      (∃ req d rest, s.inbox = .bus req d :: rest ∧ req.toNat / 4 = 64 ∧ d.toNat % 256 = 2 ∧ s.fsm = .idle))

/-! ### Capture memory -/

/-- R110: CAPW stores the value, of `DUR_W` bits, in its entry and leaves every other entry and all other state as it was.
That the memory keeps its canonical form speaks of the model's own list form of it (DESIGN CHOICE,
notes/assumptions/2.md). -/
def Obligations.CaptureWriteChangesOneEntry : Prop :=
  ∀ (k : Count) (v : Nat) (s : State), ∃ m : Memory,
    exec (.capw k v) s = .next { s with cap := m } ∧ Memory.lookup k.toNat m = some (v % 2 ^ s.params.durW) ∧
    (∀ j, j ≠ k.toNat → Memory.lookup j m = Memory.lookup j s.cap) ∧
    (Memory.wf s.cap = true → Memory.wf m = true)

/-- R64, R72, R50: a read of a backed entry returns what was last written there, or the entry's free power-up value where
nothing was, and changes nothing; a read of an entry the platform does not back returns the next free draw. A statement
about every value of both free values. -/
def Obligations.CaptureReadReturnsTheEntryOrADraw : Prop :=
  ∀ (k : Count) (v : Nat) (j : Nat) (s t : State), exec (.capw k v) s = .next t →
    (j ∉ s.unbacked → capRead j t = (if j = k.toNat then v % 2 ^ s.params.durW else capEntry j s, t)) ∧
    (j ∈ s.unbacked → capRead j t = (Config.capDraw s.draws % 2 ^ s.params.durW, { t with draws := s.draws + 1 })) ∧
    (Memory.lookup j s.cap = none → capEntry j s = Config.capPowerUp j % 2 ^ s.params.durW)

/-- R65: MDEC never writes capture memory: only the capture agent's step changes it. -/
def Obligations.OnlyTheCaptureAgentWritesCapture : Prop :=
  ∀ s t : State, step s = .next t → (∀ k v rest, s.inbox ≠ .capw k v :: rest) → t.cap = s.cap

/-- R17: no step changes the platform parameters; nor does one change which entries the platform backs. That both stand in
the state is the model's own form of them (DESIGN CHOICE, notes/assumptions/1.md and 3.md). -/
def Obligations.StepKeepsThePlatform : Prop :=
  ∀ s t : State, step s = .next t → t.params = s.params ∧ t.unbacked = s.unbacked

/-- R26, R27, R48: every step keeps UNIT, TOL and every capture entry within `DUR_W` bits, so that the reserved bits of
UNIT and TOL stay 0 (the storage of notes/assumptions/1.md). -/
def Obligations.StepKeepsDurationsWithinTheirWidth : Prop :=
  ∀ s t : State, DurationsFit s → step s = .next t → DurationsFit t

/-- Every step keeps the canonical form of the capture memory. -/
def Obligations.StepKeepsCaptureForm : Prop :=
  ∀ s t : State, Memory.wf s.cap = true → step s = .next t → Memory.wf t.cap = true

/-! ### The sampler -/

/-- R122, R124: the classification of a duration is the least k in 1 to `MAX_UNITS` = n with |w - k*T| <= E, and none where
no such k is; both 1 and 2 match only when 2*E >= T. -/
def Obligations.ClassificationIsTheLeastMatch : Prop :=
  ∀ n t e w : Nat,
    (∀ k, classify n t e w = some k ↔ 1 ≤ k ∧ k ≤ n ∧ |(w : Int) - k * t| ≤ e ∧
      ∀ j : Nat, 1 ≤ j → j < k → ¬|(w : Int) - j * t| ≤ e) ∧
    (classify n t e w = none ↔ ∀ j : Nat, 1 ≤ j → j ≤ n → ¬|(w : Int) - j * t| ≤ e) ∧
    (|(w : Int) - t| ≤ e → |(w : Int) - 2 * t| ≤ e → t ≤ 2 * e)

/-- R123, R125, R126, R121: one sample: EXHAUSTED past the end and ERROR outside every window leave the cursor, and
otherwise the entry's level is produced and the cursor moves by one unit. `capRead` is the capture port's read. -/
def Obligations.SampleFollowsTheSamplerRule : Prop :=
  ∀ s : State,
    (s.rawlen.toNat ≤ s.off.toNat → sample s = (.exhausted, s)) ∧
    (s.off.toNat < s.rawlen.toNat → ∀ (k : Nat) (u : State),
      ((s.cur ≠ 0 ∧ k = s.cur ∧ u = s) ∨
        (s.cur = 0 ∧ u = (capRead s.off.toNat s).2 ∧
          classify s.params.maxUnits s.unit.toNat s.tol.toNat (capRead s.off.toNat s).1 = some k)) →
      sample s =
        (if s.off.toNat % 2 = 1 then .mark else .space,
          if s.used + 1 < k then { u with used := s.used + 1, cur := k }
          else { u with used := 0, cur := 0, off := BitVec.ofNat 8 (s.off.toNat + 1) })) ∧
    (s.off.toNat < s.rawlen.toNat → s.cur = 0 →
      classify s.params.maxUnits s.unit.toNat s.tol.toNat (capRead s.off.toNat s).1 = none →
      sample s = (.error, (capRead s.off.toNat s).2))

/-! ### The engine's steps -/

/-- R141: an IDLE engine has no step. R142, R149, R150: LENCHK rejects a length outside 14 to 48 in STRICT mode and no
length in PERMISSIVE mode; a rejection leaves the sampler cursor; otherwise the cursor is initialized and START is next. -/
def Obligations.LengthCheckRejectsOrInitializes : Prop :=
  ∀ s : State,
    exec .fsmIdle s = .next s ∧
    (s.lcm = .permissive ∨ (14 ≤ s.rawlen.toNat ∧ s.rawlen.toNat ≤ 48) →
      exec .fsmLenchk s = .next { s with off := 1, used := 0, cur := 0, fsm := .start }) ∧
    (s.lcm = .strict → s.rawlen.toNat < 14 ∨ 48 < s.rawlen.toNat →
      exec .fsmLenchk s = .next
        { s with
          done := true, result := .rejected, rawval := 0, fsm := .idle
          diagReason := if s.diagEn then .length else s.diagReason
          diagPos := if s.diagEn then 0 else s.diagPos
          diagNbits := if s.diagEn then 0 else s.diagNbits })

/-- R143, R154, R172: START takes one sample; a MARK starts the data, ERROR ends MALFORMED with reason SAMPLER and
anything else with reason START, with the completion writes only. That NBITS is then 0, `h.nb` read as R45 defines it (the
bits of this decode) and not as an earlier decode left it stored, is the model's own reading (DEDUCED,
notes/assumptions/9.md). -/
def Obligations.StartConsumesTheStartMark : Prop :=
  ∀ (s u : State) (b : Sample), sample s = (b, u) →
    (b = .mark → exec .fsmStart s = .next { u with acc := 0, nb := 0, fsm := .pairA }) ∧
    (b ≠ .mark → exec .fsmStart s = .next
      { u with
        done := true, result := .malformed, rawval := 0, fsm := .idle
        diagReason := if s.diagEn then (if b = .error then .sampler else .start) else s.diagReason
        diagPos := if s.diagEn then u.off else s.diagPos
        diagNbits := if s.diagEn then (if s.fsm = .lenchk ∨ s.fsm = .start then 0 else s.nb) else s.diagNbits })

/-- R144, R148, R154: at the end of the frame PAIR_A ends the decode, with SUCCESS exactly when 23 bits have been decoded;
before it, it latches the first sample of a pair, or ends MALFORMED with reason SAMPLER. NBITS is `h.nb` (R45), in PAIR_A
what is stored. -/
def Obligations.PairAEndsTheFrameOrLatches : Prop :=
  ∀ s : State,
    (s.rawlen.toNat ≤ s.off.toNat → exec .fsmPairA s = .next
      { s with
        done := true, fsm := .idle
        result := if s.nb.toNat = 23 then .success else .malformed
        rawval := if s.nb.toNat = 23 then s.acc else 0
        diagReason := if s.diagEn then (if s.nb.toNat = 23 then .none else .bitcount) else s.diagReason
        diagPos := if s.diagEn then s.off else s.diagPos
        diagNbits := if s.diagEn then (if s.fsm = .lenchk ∨ s.fsm = .start then 0 else s.nb) else s.diagNbits }) ∧
    (s.off.toNat < s.rawlen.toNat → ∀ u : State,
      (sample s = (.mark, u) → exec .fsmPairA s = .next { u with lvlA := .mark, fsm := .pairB }) ∧
      (sample s = (.space, u) → exec .fsmPairA s = .next { u with lvlA := .space, fsm := .pairB }) ∧
      (sample s = (.error, u) → exec .fsmPairA s = .next
        { u with
          done := true, result := .malformed, rawval := 0, fsm := .idle
          diagReason := if s.diagEn then .sampler else s.diagReason
          diagPos := if s.diagEn then s.off else s.diagPos
          diagNbits := if s.diagEn then (if s.fsm = .lenchk ∨ s.fsm = .start then 0 else s.nb) else s.diagNbits }) ∧
      sample s ≠ (.exhausted, u))

/-- R145, R89, R92: PAIR_B takes the second sample and then does what the row of the pair does. -/
def Obligations.PairBRunsTheRowOfItsPair : Prop :=
  ∀ (s u : State) (b : Sample) (i : Instr), sample s = (b, u) →
    decode (.pair (s.lvlA.toSample.code ++ b.code)) = .instr i →
      ∃ t, exec .fsmPairB s = .next t ∧ exec i u = .next t

/-- R145, R146, R147: SPACE-MARK appends a 0 and MARK-SPACE, or MARK with the capture exhausted, a 1, as the new least
significant bit modulo 2^23; the bit count goes up by one and PAIR_A is next. -/
def Obligations.ValidPairsAppendTheirBit : Prop :=
  ∀ s : State,
    exec .pairBit0 s = .next
      { s with acc := BitVec.ofNat 23 (2 * s.acc.toNat), nb := BitVec.ofNat 8 (s.nb.toNat + 1), fsm := .pairA } ∧
    exec .pairBit1 s = .next
      { s with acc := BitVec.ofNat 23 (2 * s.acc.toNat + 1), nb := BitVec.ofNat 8 (s.nb.toNat + 1), fsm := .pairA } ∧
    exec .pairBit1Tail s = .next
      { s with acc := BitVec.ofNat 23 (2 * s.acc.toNat + 1), nb := BitVec.ofNat 8 (s.nb.toNat + 1), fsm := .pairA }

/-- R145, R146, R154, R172: a same-level pair ends the decode MALFORMED with reason PAIR, and an ERROR sample with reason
SAMPLER; RAWVAL is 0 and DIAG is written only when DIAG_EN is 1. NBITS is `h.nb` (R45), in PAIR_B what is stored. -/
def Obligations.InvalidPairsEndMalformed : Prop :=
  ∀ (s : State) (a : BitVec 2) (i : Instr),
    i ∈ [.pairInvalidMM, .pairInvalidSS, .pairInvalidSTail, .pairSamplerError a] →
      exec i s = .next
        { s with
          done := true, result := .malformed, rawval := 0, fsm := .idle
          diagReason := if s.diagEn then (if i = .pairSamplerError a then .sampler else .pair) else s.diagReason
          diagPos := if s.diagEn then s.off else s.diagPos
          diagNbits := if s.diagEn then (if s.fsm = .lenchk ∨ s.fsm = .start then 0 else s.nb) else s.diagNbits }

/-! ### The whole machine -/

/-- R35, R23, R86, R178: every step keeps the result registers describing one finished decode or all cleared. -/
def Obligations.StepKeepsResultsConsistent : Prop :=
  ∀ s t : State, ResultsOk s → step s = .next t → ResultsOk t

/-- R41 to R45, R64, R157: every step keeps the cursor inside the frame and the bit count within the units passed, for every
`MAX_UNITS`. -/
def Obligations.StepKeepsCursorAndBitCountInBounds : Prop :=
  ∀ s t : State, EngineOk s → step s = .next t → EngineOk t

/-- R157, which rests on `MAX_UNITS` = 2 (at most 2): in every run from an accepted DECODE, with whatever host steps in
between, the bit count stays below RAWLEN.LEN, and at most 47 in STRICT mode, while pairs are decoded and also after the
step that completes the decode. -/
def Obligations.BitCountStaysBelowRawlen : Prop :=
  ∀ (k : Nat) (s t : State), s.fsm = .lenchk → s.params.maxUnits ≤ 2 → stepN k s = .next t →
    t.fsm = .pairA ∨ t.fsm = .pairB →
    t.nb.toNat + 1 ≤ t.rawlen.toNat ∧ t.nb.toNat ≤ 254 ∧ (t.lcm = .strict → t.nb.toNat ≤ 47) ∧
    ∀ u, step t = .next u → u.nb.toNat + 1 ≤ t.rawlen.toNat ∧ u.nb.toNat ≤ 254 ∧ (t.lcm = .strict → u.nb.toNat ≤ 47)

/-- R74, R194: while BUSY no step but a reset changes RAWLEN, UNIT, TOL or CONFIG. -/
def Obligations.InputsAreFrozenWhileBusy : Prop :=
  ∀ s t : State, s.fsm ≠ .idle → (∀ rest, s.inbox ≠ .reset :: rest) → step s = .next t →
    t.rawlen = s.rawlen ∧ t.unit = s.unit ∧ t.tol = s.tol ∧ t.lcm = s.lcm ∧ t.diagEn = s.diagEn ∧ t.ie = s.ie

/-- R111, R192: a bus transaction while BUSY leaves the running decode alone: a write can only set CMDERR, and a read only
changes what the bus returns. -/
def Obligations.BusTransactionsLeaveARunningDecodeAlone : Prop :=
  ∀ (s : State) (req : BitVec 9) (d : Word) (rest : List Turn), s.fsm ≠ .idle → s.inbox = .bus req d :: rest →
    ∃ (e : Bool) (w : Word), step s = .next { s with cmderr := e, rdata := w, inbox := rest } ∧
      (s.cmderr = true → e = true) ∧ (256 ≤ req.toNat → w = s.rdata) ∧ (req.toNat < 256 → e = s.cmderr)

/-- R154, R65: an engine step writes only the result registers, the hidden state and DIAG. -/
def Obligations.EngineStepsLeaveTheHostsRegisters : Prop :=
  ∀ s t : State, s.inbox = [] ∨ (∃ rest, s.inbox = .engine :: rest) → step s = .next t →
    t.cmderr = s.cmderr ∧ t.lcm = s.lcm ∧ t.diagEn = s.diagEn ∧ t.ie = s.ie ∧ t.rawlen = s.rawlen ∧ t.unit = s.unit ∧
    t.tol = s.tol ∧ t.cap = s.cap ∧ t.unbacked = s.unbacked ∧ t.rdata = s.rdata ∧ t.inbox = s.inbox.tail

/-- R76, R179: a finished result, DONE with it, stays as it is at every step but an accepted DECODE or CLEAR (a write to CMD
whose low byte is 1 or 2) or a reset; each of those takes DONE and the whole result away. -/
def Obligations.FinishedResultsStayUntilAcknowledged : Prop :=
  ∀ s t : State, s.fsm = .idle → s.done = true → step s = .next t →
    ((∀ rest, s.inbox ≠ .reset :: rest) →
      (∀ req d rest, s.inbox = .bus req d :: rest → req.toNat / 4 = 64 → d.toNat % 256 ≠ 1 ∧ d.toNat % 256 ≠ 2) →
      t.done = true ∧ t.result = s.result ∧ t.rawval = s.rawval ∧ t.diagReason = s.diagReason ∧
        t.diagPos = s.diagPos ∧ t.diagNbits = s.diagNbits ∧ t.fsm = .idle) ∧
    ((∃ rest, s.inbox = .reset :: rest) ∨
        (∃ req d rest, s.inbox = Turn.bus req d :: rest ∧ req.toNat / 4 = 64 ∧
          (d.toNat % 256 = 1 ∨ d.toNat % 256 = 2)) →
      t.done = false ∧ t.result = .none ∧ t.rawval = 0 ∧ t.diagReason = .none ∧ t.diagPos = 0 ∧ t.diagNbits = 0)

/-- R177: `irq` is STATUS.DONE and CONFIG.IE as read from the bus; it rises only when a decode completes or when IE is
set over a completion not yet acknowledged; it falls exactly at an accepted DECODE or CLEAR, at a write that clears IE, and
at a reset. -/
def Obligations.IrqFollowsDoneAndIe : Prop :=
  ∀ s : State,
    irq s = ((readWord .status s).getLsbD 1 && (readWord .config s).getLsbD 2) ∧
    ∀ t, step s = .next t →
      (irq s = false → irq t = true →
        (s.fsm ≠ .idle ∧ t.fsm = .idle ∧ s.ie = true) ∨
        (s.done = true ∧ s.fsm = .idle ∧ s.ie = false ∧ ∃ req d rest, s.inbox = Turn.bus req d :: rest ∧
          req.toNat / 4 = 66 ∧ d.toNat / 4 % 2 = 1)) ∧
      (irq s = true →
        (irq t = false ↔ (∃ rest, s.inbox = Turn.reset :: rest) ∨
          ∃ req d rest, s.inbox = Turn.bus req d :: rest ∧ s.fsm = .idle ∧
            ((req.toNat / 4 = 64 ∧ (d.toNat % 256 = 1 ∨ d.toNat % 256 = 2)) ∨
              (req.toNat / 4 = 66 ∧ d.toNat / 4 % 2 = 0))))

/-- R148: a decode reaches SUCCESS only from PAIR_A at the end of the frame with exactly 23 bits, and then RAWVAL is the
assembled value; any other count there gives MALFORMED with reason BITCOUNT. -/
def Obligations.SuccessNeedsExactly23Bits : Prop :=
  (∀ s t : State, s.fsm ≠ .idle → step s = .next t → t.fsm = .idle → t.result = .success →
    s.fsm = .pairA ∧ s.rawlen.toNat ≤ s.off.toNat ∧ s.nb.toNat = 23 ∧ t.rawval = s.acc ∧ t.done = true) ∧
  (∀ s : State, s.fsm = .pairA → s.inbox = [] → s.rawlen.toNat ≤ s.off.toNat → s.nb.toNat ≠ 23 →
    ∃ t, step s = .next t ∧ t.fsm = .idle ∧ t.done = true ∧ t.result = .malformed ∧ t.rawval = 0 ∧
      (s.diagEn = true → t.diagReason = .bitcount))

/-! ### Whole decodes -/

/-- R200, R205: every decode completes, for every `MAX_UNITS`; with `MAX_UNITS` = 2 (at most 2), on which R200's count
rests, within 2*L + 1 engine steps (two where L = 0, which that count leaves out; notes/assumptions/11.md) and within 97 in
STRICT mode. -/
def Obligations.EveryDecodeCompletes : Prop :=
  ∀ s : State, s.fsm = .lenchk → s.inbox = [] →
    ∃ (k : Nat) (t : State), stepN k s = .next t ∧ t.fsm = .idle ∧ t.done = true ∧
      k ≤ s.params.maxUnits * (s.rawlen.toNat - 1) + 3 ∧
      (s.params.maxUnits ≤ 2 → k ≤ max 2 (2 * s.rawlen.toNat + 1) ∧ (s.lcm = .strict → k ≤ 97))

/-- R200: a SUCCESS takes exactly 49 engine steps, with `MAX_UNITS` = 2 (at most 2), on which R157's bound rests. -/
def Obligations.SuccessTakesExactly49Steps : Prop :=
  ∀ (k : Nat) (s t u : State), s.fsm = .lenchk → s.inbox = [] → s.params.maxUnits ≤ 2 → stepN k s = .next t →
    t.fsm ≠ .idle → stepN (k + 1) s = .next u → u.fsm = .idle → u.result = .success → k + 1 = 49

/-- R67, R66: in one decode the capture port reads each entry at most once, and only entries 1 to RAWLEN.LEN - 1, told by
the model's counter of the draws that an unbacked entry takes (notes/assumptions/3.md): with one entry unbacked, at most one
draw where the entry is one of those and none otherwise; with any, at most RAWLEN.LEN - 1 draws. -/
def Obligations.DecodeReadsEachEntryAtMostOnce : Prop :=
  ∀ (k : Nat) (s t : State), s.fsm = .lenchk → s.inbox = [] → stepN k s = .next t →
    (∀ i, s.unbacked = [i] → t.draws ≤ s.draws + (if 1 ≤ i ∧ i < s.rawlen.toNat then 1 else 0)) ∧
    t.draws ≤ s.draws + (s.rawlen.toNat - 1)

/-- R158, R66, R18: the outcome, RAWVAL and DIAG of a decode, at every engine step of it, are a function of its inputs,
whatever an earlier decode left behind. That NBITS is too after a failing START is the model's own reading of `h.nb` there
by R45, as R158 and R172 ask (DEDUCED, notes/assumptions/9.md). -/
def Obligations.DecodeDependsOnlyOnItsInputs : Prop :=
  ∀ (k : Nat) (s t : State), s.fsm = .idle → t.fsm = .idle → s.inbox = [] → t.inbox = [] → SameInputs s t →
    ∃ s' t' : State, stepN k (startDecode s) = .next s' ∧ stepN k (startDecode t) = .next t' ∧
      s'.fsm = t'.fsm ∧ s'.done = t'.done ∧ s'.result = t'.result ∧ s'.rawval = t'.rawval ∧
      s'.diagReason = t'.diagReason ∧ s'.diagPos = t'.diagPos ∧ s'.diagNbits = t'.diagNbits

/-- R183: DIAG_EN changes only whether DIAG is written: two decodes that differ only in it agree, at every step, on
everything but DIAG and DIAG_EN itself. -/
def Obligations.DiagEnableChangesOnlyDiag : Prop :=
  ∀ (k : Nat) (s : State) (b : Bool), s.inbox = [] →
    ∃ t u : State, stepN k s = .next t ∧ stepN k { s with diagEn := b } = .next u ∧
      u = { t with diagEn := b, diagReason := u.diagReason, diagPos := u.diagPos, diagNbits := u.diagNbits }

/-- R160: the capture of any 23-bit value, built by the encoding convention with T > 0 and E < T, decodes to SUCCESS with
that value, for every `MAX_UNITS` from 2; its length is between 24 and 48. The rule says STRICT; that PERMISSIVE gives the
same is inferred from R149, whose check then rejects nothing. -/
def Obligations.EncodedFrameDecodesToItsValue : Prop :=
  ∀ (s : State) (v : Raw), s.fsm = .idle → s.inbox = [] → 2 ≤ s.params.maxUnits → 0 < s.unit.toNat → s.tol.toNat < s.unit.toNat →
    HoldsCapture s (dropFinalSpace (frameLevels v)) →
      24 ≤ s.rawlen.toNat ∧ s.rawlen.toNat ≤ 48 ∧
      ∃ t, stepN 49 (startDecode s) = .next t ∧ t.fsm = .idle ∧ t.done = true ∧ t.result = .success ∧ t.rawval = v

/-- R161: where one data pair of such a capture has become same-level, the decode is MALFORMED with reason PAIR or
SAMPLER, never SUCCESS, for every `MAX_UNITS` from 2. -/
def Obligations.CorruptedPairIsCaught : Prop :=
  ∀ (s : State) (v : Raw) (j : Nat) (x : Level), s.fsm = .idle → s.inbox = [] →
    2 ≤ s.params.maxUnits → 0 < s.unit.toNat → s.tol.toNat < s.unit.toNat → j < 23 → HoldsCapture s (dropFinalSpace (corruptLevels v j x)) →
      ∃ (k : Nat) (t : State), k ≤ 48 ∧ stepN k (startDecode s) = .next t ∧ t.fsm = .idle ∧ t.done = true ∧
        t.result = .malformed ∧ t.rawval = 0 ∧ (s.diagEn = true → t.diagReason = .pair ∨ t.diagReason = .sampler)
end

