-- ==== Sys2Proof/Laws/State.lean ====
section
/-! SUPPORT. Sys2Proof/Laws/State.lean: one lemma per field per update, so that no proof unfolds a record update. -/

namespace Sys2Proof.Machine

/-! ### setCmderr -/

@[simp] theorem setCmderr_done (s : State) : (setCmderr s).done = s.done := rfl
@[simp] theorem setCmderr_result (s : State) : (setCmderr s).result = s.result := rfl
@[simp] theorem setCmderr_cmderr (s : State) : (setCmderr s).cmderr = true := rfl
@[simp] theorem setCmderr_lcm (s : State) : (setCmderr s).lcm = s.lcm := rfl
@[simp] theorem setCmderr_diagEn (s : State) : (setCmderr s).diagEn = s.diagEn := rfl
@[simp] theorem setCmderr_ie (s : State) : (setCmderr s).ie = s.ie := rfl
@[simp] theorem setCmderr_rawlen (s : State) : (setCmderr s).rawlen = s.rawlen := rfl
@[simp] theorem setCmderr_unit (s : State) : (setCmderr s).unit = s.unit := rfl
@[simp] theorem setCmderr_tol (s : State) : (setCmderr s).tol = s.tol := rfl
@[simp] theorem setCmderr_rawval (s : State) : (setCmderr s).rawval = s.rawval := rfl
@[simp] theorem setCmderr_diagReason (s : State) : (setCmderr s).diagReason = s.diagReason := rfl
@[simp] theorem setCmderr_diagPos (s : State) : (setCmderr s).diagPos = s.diagPos := rfl
@[simp] theorem setCmderr_diagNbits (s : State) : (setCmderr s).diagNbits = s.diagNbits := rfl
@[simp] theorem setCmderr_fsm (s : State) : (setCmderr s).fsm = s.fsm := rfl
@[simp] theorem setCmderr_off (s : State) : (setCmderr s).off = s.off := rfl
@[simp] theorem setCmderr_used (s : State) : (setCmderr s).used = s.used := rfl
@[simp] theorem setCmderr_cur (s : State) : (setCmderr s).cur = s.cur := rfl
@[simp] theorem setCmderr_acc (s : State) : (setCmderr s).acc = s.acc := rfl
@[simp] theorem setCmderr_nb (s : State) : (setCmderr s).nb = s.nb := rfl
@[simp] theorem setCmderr_lvlA (s : State) : (setCmderr s).lvlA = s.lvlA := rfl
@[simp] theorem setCmderr_params (s : State) : (setCmderr s).params = s.params := rfl
@[simp] theorem setCmderr_cap (s : State) : (setCmderr s).cap = s.cap := rfl
@[simp] theorem setCmderr_unbacked (s : State) : (setCmderr s).unbacked = s.unbacked := rfl
@[simp] theorem setCmderr_draws (s : State) : (setCmderr s).draws = s.draws := rfl
@[simp] theorem setCmderr_rdata (s : State) : (setCmderr s).rdata = s.rdata := rfl
@[simp] theorem setCmderr_inbox (s : State) : (setCmderr s).inbox = s.inbox := rfl

/-! ### clearResults -/

@[simp] theorem clearResults_done (s : State) : (clearResults s).done = false := rfl
@[simp] theorem clearResults_result (s : State) : (clearResults s).result = .none := rfl
@[simp] theorem clearResults_cmderr (s : State) : (clearResults s).cmderr = s.cmderr := rfl
@[simp] theorem clearResults_lcm (s : State) : (clearResults s).lcm = s.lcm := rfl
@[simp] theorem clearResults_diagEn (s : State) : (clearResults s).diagEn = s.diagEn := rfl
@[simp] theorem clearResults_ie (s : State) : (clearResults s).ie = s.ie := rfl
@[simp] theorem clearResults_rawlen (s : State) : (clearResults s).rawlen = s.rawlen := rfl
@[simp] theorem clearResults_unit (s : State) : (clearResults s).unit = s.unit := rfl
@[simp] theorem clearResults_tol (s : State) : (clearResults s).tol = s.tol := rfl
@[simp] theorem clearResults_rawval (s : State) : (clearResults s).rawval = 0 := rfl
@[simp] theorem clearResults_diagReason (s : State) : (clearResults s).diagReason = .none := rfl
@[simp] theorem clearResults_diagPos (s : State) : (clearResults s).diagPos = 0 := rfl
@[simp] theorem clearResults_diagNbits (s : State) : (clearResults s).diagNbits = 0 := rfl
@[simp] theorem clearResults_fsm (s : State) : (clearResults s).fsm = s.fsm := rfl
@[simp] theorem clearResults_off (s : State) : (clearResults s).off = s.off := rfl
@[simp] theorem clearResults_used (s : State) : (clearResults s).used = s.used := rfl
@[simp] theorem clearResults_cur (s : State) : (clearResults s).cur = s.cur := rfl
@[simp] theorem clearResults_acc (s : State) : (clearResults s).acc = s.acc := rfl
@[simp] theorem clearResults_nb (s : State) : (clearResults s).nb = s.nb := rfl
@[simp] theorem clearResults_lvlA (s : State) : (clearResults s).lvlA = s.lvlA := rfl
@[simp] theorem clearResults_params (s : State) : (clearResults s).params = s.params := rfl
@[simp] theorem clearResults_cap (s : State) : (clearResults s).cap = s.cap := rfl
@[simp] theorem clearResults_unbacked (s : State) : (clearResults s).unbacked = s.unbacked := rfl
@[simp] theorem clearResults_draws (s : State) : (clearResults s).draws = s.draws := rfl
@[simp] theorem clearResults_rdata (s : State) : (clearResults s).rdata = s.rdata := rfl
@[simp] theorem clearResults_inbox (s : State) : (clearResults s).inbox = s.inbox := rfl

/-! ### busRead -/

@[simp] theorem busRead_done (r : Reg) (s : State) : (busRead r s).done = s.done := rfl
@[simp] theorem busRead_result (r : Reg) (s : State) : (busRead r s).result = s.result := rfl
@[simp] theorem busRead_cmderr (r : Reg) (s : State) : (busRead r s).cmderr = s.cmderr := rfl
@[simp] theorem busRead_lcm (r : Reg) (s : State) : (busRead r s).lcm = s.lcm := rfl
@[simp] theorem busRead_diagEn (r : Reg) (s : State) : (busRead r s).diagEn = s.diagEn := rfl
@[simp] theorem busRead_ie (r : Reg) (s : State) : (busRead r s).ie = s.ie := rfl
@[simp] theorem busRead_rawlen (r : Reg) (s : State) : (busRead r s).rawlen = s.rawlen := rfl
@[simp] theorem busRead_unit (r : Reg) (s : State) : (busRead r s).unit = s.unit := rfl
@[simp] theorem busRead_tol (r : Reg) (s : State) : (busRead r s).tol = s.tol := rfl
@[simp] theorem busRead_rawval (r : Reg) (s : State) : (busRead r s).rawval = s.rawval := rfl
@[simp] theorem busRead_diagReason (r : Reg) (s : State) : (busRead r s).diagReason = s.diagReason := rfl
@[simp] theorem busRead_diagPos (r : Reg) (s : State) : (busRead r s).diagPos = s.diagPos := rfl
@[simp] theorem busRead_diagNbits (r : Reg) (s : State) : (busRead r s).diagNbits = s.diagNbits := rfl
@[simp] theorem busRead_fsm (r : Reg) (s : State) : (busRead r s).fsm = s.fsm := rfl
@[simp] theorem busRead_off (r : Reg) (s : State) : (busRead r s).off = s.off := rfl
@[simp] theorem busRead_used (r : Reg) (s : State) : (busRead r s).used = s.used := rfl
@[simp] theorem busRead_cur (r : Reg) (s : State) : (busRead r s).cur = s.cur := rfl
@[simp] theorem busRead_acc (r : Reg) (s : State) : (busRead r s).acc = s.acc := rfl
@[simp] theorem busRead_nb (r : Reg) (s : State) : (busRead r s).nb = s.nb := rfl
@[simp] theorem busRead_lvlA (r : Reg) (s : State) : (busRead r s).lvlA = s.lvlA := rfl
@[simp] theorem busRead_params (r : Reg) (s : State) : (busRead r s).params = s.params := rfl
@[simp] theorem busRead_cap (r : Reg) (s : State) : (busRead r s).cap = s.cap := rfl
@[simp] theorem busRead_unbacked (r : Reg) (s : State) : (busRead r s).unbacked = s.unbacked := rfl
@[simp] theorem busRead_draws (r : Reg) (s : State) : (busRead r s).draws = s.draws := rfl
@[simp] theorem busRead_rdata (r : Reg) (s : State) : (busRead r s).rdata = readWord r s := rfl
@[simp] theorem busRead_inbox (r : Reg) (s : State) : (busRead r s).inbox = s.inbox := rfl

/-! ### busReadUnmapped -/

@[simp] theorem busReadUnmapped_done (s : State) : (busReadUnmapped s).done = s.done := rfl
@[simp] theorem busReadUnmapped_result (s : State) : (busReadUnmapped s).result = s.result := rfl
@[simp] theorem busReadUnmapped_cmderr (s : State) : (busReadUnmapped s).cmderr = s.cmderr := rfl
@[simp] theorem busReadUnmapped_lcm (s : State) : (busReadUnmapped s).lcm = s.lcm := rfl
@[simp] theorem busReadUnmapped_diagEn (s : State) : (busReadUnmapped s).diagEn = s.diagEn := rfl
@[simp] theorem busReadUnmapped_ie (s : State) : (busReadUnmapped s).ie = s.ie := rfl
@[simp] theorem busReadUnmapped_rawlen (s : State) : (busReadUnmapped s).rawlen = s.rawlen := rfl
@[simp] theorem busReadUnmapped_unit (s : State) : (busReadUnmapped s).unit = s.unit := rfl
@[simp] theorem busReadUnmapped_tol (s : State) : (busReadUnmapped s).tol = s.tol := rfl
@[simp] theorem busReadUnmapped_rawval (s : State) : (busReadUnmapped s).rawval = s.rawval := rfl
@[simp] theorem busReadUnmapped_diagReason (s : State) : (busReadUnmapped s).diagReason = s.diagReason := rfl
@[simp] theorem busReadUnmapped_diagPos (s : State) : (busReadUnmapped s).diagPos = s.diagPos := rfl
@[simp] theorem busReadUnmapped_diagNbits (s : State) : (busReadUnmapped s).diagNbits = s.diagNbits := rfl
@[simp] theorem busReadUnmapped_fsm (s : State) : (busReadUnmapped s).fsm = s.fsm := rfl
@[simp] theorem busReadUnmapped_off (s : State) : (busReadUnmapped s).off = s.off := rfl
@[simp] theorem busReadUnmapped_used (s : State) : (busReadUnmapped s).used = s.used := rfl
@[simp] theorem busReadUnmapped_cur (s : State) : (busReadUnmapped s).cur = s.cur := rfl
@[simp] theorem busReadUnmapped_acc (s : State) : (busReadUnmapped s).acc = s.acc := rfl
@[simp] theorem busReadUnmapped_nb (s : State) : (busReadUnmapped s).nb = s.nb := rfl
@[simp] theorem busReadUnmapped_lvlA (s : State) : (busReadUnmapped s).lvlA = s.lvlA := rfl
@[simp] theorem busReadUnmapped_params (s : State) : (busReadUnmapped s).params = s.params := rfl
@[simp] theorem busReadUnmapped_cap (s : State) : (busReadUnmapped s).cap = s.cap := rfl
@[simp] theorem busReadUnmapped_unbacked (s : State) : (busReadUnmapped s).unbacked = s.unbacked := rfl
@[simp] theorem busReadUnmapped_draws (s : State) : (busReadUnmapped s).draws = s.draws := rfl
@[simp] theorem busReadUnmapped_rdata (s : State) : (busReadUnmapped s).rdata = 0 := rfl
@[simp] theorem busReadUnmapped_inbox (s : State) : (busReadUnmapped s).inbox = s.inbox := rfl

/-! ### storeCap -/

@[simp] theorem storeCap_done (i : Count) (v : Nat) (s : State) : (storeCap i v s).done = s.done := rfl
@[simp] theorem storeCap_result (i : Count) (v : Nat) (s : State) : (storeCap i v s).result = s.result := rfl
@[simp] theorem storeCap_cmderr (i : Count) (v : Nat) (s : State) : (storeCap i v s).cmderr = s.cmderr := rfl
@[simp] theorem storeCap_lcm (i : Count) (v : Nat) (s : State) : (storeCap i v s).lcm = s.lcm := rfl
@[simp] theorem storeCap_diagEn (i : Count) (v : Nat) (s : State) : (storeCap i v s).diagEn = s.diagEn := rfl
@[simp] theorem storeCap_ie (i : Count) (v : Nat) (s : State) : (storeCap i v s).ie = s.ie := rfl
@[simp] theorem storeCap_rawlen (i : Count) (v : Nat) (s : State) : (storeCap i v s).rawlen = s.rawlen := rfl
@[simp] theorem storeCap_unit (i : Count) (v : Nat) (s : State) : (storeCap i v s).unit = s.unit := rfl
@[simp] theorem storeCap_tol (i : Count) (v : Nat) (s : State) : (storeCap i v s).tol = s.tol := rfl
@[simp] theorem storeCap_rawval (i : Count) (v : Nat) (s : State) : (storeCap i v s).rawval = s.rawval := rfl
@[simp] theorem storeCap_diagReason (i : Count) (v : Nat) (s : State) : (storeCap i v s).diagReason = s.diagReason := rfl
@[simp] theorem storeCap_diagPos (i : Count) (v : Nat) (s : State) : (storeCap i v s).diagPos = s.diagPos := rfl
@[simp] theorem storeCap_diagNbits (i : Count) (v : Nat) (s : State) : (storeCap i v s).diagNbits = s.diagNbits := rfl
@[simp] theorem storeCap_fsm (i : Count) (v : Nat) (s : State) : (storeCap i v s).fsm = s.fsm := rfl
@[simp] theorem storeCap_off (i : Count) (v : Nat) (s : State) : (storeCap i v s).off = s.off := rfl
@[simp] theorem storeCap_used (i : Count) (v : Nat) (s : State) : (storeCap i v s).used = s.used := rfl
@[simp] theorem storeCap_cur (i : Count) (v : Nat) (s : State) : (storeCap i v s).cur = s.cur := rfl
@[simp] theorem storeCap_acc (i : Count) (v : Nat) (s : State) : (storeCap i v s).acc = s.acc := rfl
@[simp] theorem storeCap_nb (i : Count) (v : Nat) (s : State) : (storeCap i v s).nb = s.nb := rfl
@[simp] theorem storeCap_lvlA (i : Count) (v : Nat) (s : State) : (storeCap i v s).lvlA = s.lvlA := rfl
@[simp] theorem storeCap_params (i : Count) (v : Nat) (s : State) : (storeCap i v s).params = s.params := rfl
@[simp] theorem storeCap_cap (i : Count) (v : Nat) (s : State) : (storeCap i v s).cap = Memory.write i.toNat (lowBits s.params.durW v) s.cap := rfl
@[simp] theorem storeCap_unbacked (i : Count) (v : Nat) (s : State) : (storeCap i v s).unbacked = s.unbacked := rfl
@[simp] theorem storeCap_draws (i : Count) (v : Nat) (s : State) : (storeCap i v s).draws = s.draws := rfl
@[simp] theorem storeCap_rdata (i : Count) (v : Nat) (s : State) : (storeCap i v s).rdata = s.rdata := rfl
@[simp] theorem storeCap_inbox (i : Count) (v : Nat) (s : State) : (storeCap i v s).inbox = s.inbox := rfl

/-! ### storeConfig -/

@[simp] theorem storeConfig_done (d : Word) (s : State) : (storeConfig d s).done = s.done := rfl
@[simp] theorem storeConfig_result (d : Word) (s : State) : (storeConfig d s).result = s.result := rfl
@[simp] theorem storeConfig_cmderr (d : Word) (s : State) : (storeConfig d s).cmderr = s.cmderr := rfl
@[simp] theorem storeConfig_lcm (d : Word) (s : State) : (storeConfig d s).lcm = lcmField d := rfl
@[simp] theorem storeConfig_diagEn (d : Word) (s : State) : (storeConfig d s).diagEn = diagEnField d := rfl
@[simp] theorem storeConfig_ie (d : Word) (s : State) : (storeConfig d s).ie = ieField d := rfl
@[simp] theorem storeConfig_rawlen (d : Word) (s : State) : (storeConfig d s).rawlen = s.rawlen := rfl
@[simp] theorem storeConfig_unit (d : Word) (s : State) : (storeConfig d s).unit = s.unit := rfl
@[simp] theorem storeConfig_tol (d : Word) (s : State) : (storeConfig d s).tol = s.tol := rfl
@[simp] theorem storeConfig_rawval (d : Word) (s : State) : (storeConfig d s).rawval = s.rawval := rfl
@[simp] theorem storeConfig_diagReason (d : Word) (s : State) : (storeConfig d s).diagReason = s.diagReason := rfl
@[simp] theorem storeConfig_diagPos (d : Word) (s : State) : (storeConfig d s).diagPos = s.diagPos := rfl
@[simp] theorem storeConfig_diagNbits (d : Word) (s : State) : (storeConfig d s).diagNbits = s.diagNbits := rfl
@[simp] theorem storeConfig_fsm (d : Word) (s : State) : (storeConfig d s).fsm = s.fsm := rfl
@[simp] theorem storeConfig_off (d : Word) (s : State) : (storeConfig d s).off = s.off := rfl
@[simp] theorem storeConfig_used (d : Word) (s : State) : (storeConfig d s).used = s.used := rfl
@[simp] theorem storeConfig_cur (d : Word) (s : State) : (storeConfig d s).cur = s.cur := rfl
@[simp] theorem storeConfig_acc (d : Word) (s : State) : (storeConfig d s).acc = s.acc := rfl
@[simp] theorem storeConfig_nb (d : Word) (s : State) : (storeConfig d s).nb = s.nb := rfl
@[simp] theorem storeConfig_lvlA (d : Word) (s : State) : (storeConfig d s).lvlA = s.lvlA := rfl
@[simp] theorem storeConfig_params (d : Word) (s : State) : (storeConfig d s).params = s.params := rfl
@[simp] theorem storeConfig_cap (d : Word) (s : State) : (storeConfig d s).cap = s.cap := rfl
@[simp] theorem storeConfig_unbacked (d : Word) (s : State) : (storeConfig d s).unbacked = s.unbacked := rfl
@[simp] theorem storeConfig_draws (d : Word) (s : State) : (storeConfig d s).draws = s.draws := rfl
@[simp] theorem storeConfig_rdata (d : Word) (s : State) : (storeConfig d s).rdata = s.rdata := rfl
@[simp] theorem storeConfig_inbox (d : Word) (s : State) : (storeConfig d s).inbox = s.inbox := rfl

/-! ### storeRawlen -/

@[simp] theorem storeRawlen_done (d : Word) (s : State) : (storeRawlen d s).done = s.done := rfl
@[simp] theorem storeRawlen_result (d : Word) (s : State) : (storeRawlen d s).result = s.result := rfl
@[simp] theorem storeRawlen_cmderr (d : Word) (s : State) : (storeRawlen d s).cmderr = s.cmderr := rfl
@[simp] theorem storeRawlen_lcm (d : Word) (s : State) : (storeRawlen d s).lcm = s.lcm := rfl
@[simp] theorem storeRawlen_diagEn (d : Word) (s : State) : (storeRawlen d s).diagEn = s.diagEn := rfl
@[simp] theorem storeRawlen_ie (d : Word) (s : State) : (storeRawlen d s).ie = s.ie := rfl
@[simp] theorem storeRawlen_rawlen (d : Word) (s : State) : (storeRawlen d s).rawlen = byteField d := rfl
@[simp] theorem storeRawlen_unit (d : Word) (s : State) : (storeRawlen d s).unit = s.unit := rfl
@[simp] theorem storeRawlen_tol (d : Word) (s : State) : (storeRawlen d s).tol = s.tol := rfl
@[simp] theorem storeRawlen_rawval (d : Word) (s : State) : (storeRawlen d s).rawval = s.rawval := rfl
@[simp] theorem storeRawlen_diagReason (d : Word) (s : State) : (storeRawlen d s).diagReason = s.diagReason := rfl
@[simp] theorem storeRawlen_diagPos (d : Word) (s : State) : (storeRawlen d s).diagPos = s.diagPos := rfl
@[simp] theorem storeRawlen_diagNbits (d : Word) (s : State) : (storeRawlen d s).diagNbits = s.diagNbits := rfl
@[simp] theorem storeRawlen_fsm (d : Word) (s : State) : (storeRawlen d s).fsm = s.fsm := rfl
@[simp] theorem storeRawlen_off (d : Word) (s : State) : (storeRawlen d s).off = s.off := rfl
@[simp] theorem storeRawlen_used (d : Word) (s : State) : (storeRawlen d s).used = s.used := rfl
@[simp] theorem storeRawlen_cur (d : Word) (s : State) : (storeRawlen d s).cur = s.cur := rfl
@[simp] theorem storeRawlen_acc (d : Word) (s : State) : (storeRawlen d s).acc = s.acc := rfl
@[simp] theorem storeRawlen_nb (d : Word) (s : State) : (storeRawlen d s).nb = s.nb := rfl
@[simp] theorem storeRawlen_lvlA (d : Word) (s : State) : (storeRawlen d s).lvlA = s.lvlA := rfl
@[simp] theorem storeRawlen_params (d : Word) (s : State) : (storeRawlen d s).params = s.params := rfl
@[simp] theorem storeRawlen_cap (d : Word) (s : State) : (storeRawlen d s).cap = s.cap := rfl
@[simp] theorem storeRawlen_unbacked (d : Word) (s : State) : (storeRawlen d s).unbacked = s.unbacked := rfl
@[simp] theorem storeRawlen_draws (d : Word) (s : State) : (storeRawlen d s).draws = s.draws := rfl
@[simp] theorem storeRawlen_rdata (d : Word) (s : State) : (storeRawlen d s).rdata = s.rdata := rfl
@[simp] theorem storeRawlen_inbox (d : Word) (s : State) : (storeRawlen d s).inbox = s.inbox := rfl

/-! ### storeUnit -/

@[simp] theorem storeUnit_done (d : Word) (s : State) : (storeUnit d s).done = s.done := rfl
@[simp] theorem storeUnit_result (d : Word) (s : State) : (storeUnit d s).result = s.result := rfl
@[simp] theorem storeUnit_cmderr (d : Word) (s : State) : (storeUnit d s).cmderr = s.cmderr := rfl
@[simp] theorem storeUnit_lcm (d : Word) (s : State) : (storeUnit d s).lcm = s.lcm := rfl
@[simp] theorem storeUnit_diagEn (d : Word) (s : State) : (storeUnit d s).diagEn = s.diagEn := rfl
@[simp] theorem storeUnit_ie (d : Word) (s : State) : (storeUnit d s).ie = s.ie := rfl
@[simp] theorem storeUnit_rawlen (d : Word) (s : State) : (storeUnit d s).rawlen = s.rawlen := rfl
@[simp] theorem storeUnit_unit (d : Word) (s : State) : (storeUnit d s).unit = durField s.params d := rfl
@[simp] theorem storeUnit_tol (d : Word) (s : State) : (storeUnit d s).tol = s.tol := rfl
@[simp] theorem storeUnit_rawval (d : Word) (s : State) : (storeUnit d s).rawval = s.rawval := rfl
@[simp] theorem storeUnit_diagReason (d : Word) (s : State) : (storeUnit d s).diagReason = s.diagReason := rfl
@[simp] theorem storeUnit_diagPos (d : Word) (s : State) : (storeUnit d s).diagPos = s.diagPos := rfl
@[simp] theorem storeUnit_diagNbits (d : Word) (s : State) : (storeUnit d s).diagNbits = s.diagNbits := rfl
@[simp] theorem storeUnit_fsm (d : Word) (s : State) : (storeUnit d s).fsm = s.fsm := rfl
@[simp] theorem storeUnit_off (d : Word) (s : State) : (storeUnit d s).off = s.off := rfl
@[simp] theorem storeUnit_used (d : Word) (s : State) : (storeUnit d s).used = s.used := rfl
@[simp] theorem storeUnit_cur (d : Word) (s : State) : (storeUnit d s).cur = s.cur := rfl
@[simp] theorem storeUnit_acc (d : Word) (s : State) : (storeUnit d s).acc = s.acc := rfl
@[simp] theorem storeUnit_nb (d : Word) (s : State) : (storeUnit d s).nb = s.nb := rfl
@[simp] theorem storeUnit_lvlA (d : Word) (s : State) : (storeUnit d s).lvlA = s.lvlA := rfl
@[simp] theorem storeUnit_params (d : Word) (s : State) : (storeUnit d s).params = s.params := rfl
@[simp] theorem storeUnit_cap (d : Word) (s : State) : (storeUnit d s).cap = s.cap := rfl
@[simp] theorem storeUnit_unbacked (d : Word) (s : State) : (storeUnit d s).unbacked = s.unbacked := rfl
@[simp] theorem storeUnit_draws (d : Word) (s : State) : (storeUnit d s).draws = s.draws := rfl
@[simp] theorem storeUnit_rdata (d : Word) (s : State) : (storeUnit d s).rdata = s.rdata := rfl
@[simp] theorem storeUnit_inbox (d : Word) (s : State) : (storeUnit d s).inbox = s.inbox := rfl

/-! ### storeTol -/

@[simp] theorem storeTol_done (d : Word) (s : State) : (storeTol d s).done = s.done := rfl
@[simp] theorem storeTol_result (d : Word) (s : State) : (storeTol d s).result = s.result := rfl
@[simp] theorem storeTol_cmderr (d : Word) (s : State) : (storeTol d s).cmderr = s.cmderr := rfl
@[simp] theorem storeTol_lcm (d : Word) (s : State) : (storeTol d s).lcm = s.lcm := rfl
@[simp] theorem storeTol_diagEn (d : Word) (s : State) : (storeTol d s).diagEn = s.diagEn := rfl
@[simp] theorem storeTol_ie (d : Word) (s : State) : (storeTol d s).ie = s.ie := rfl
@[simp] theorem storeTol_rawlen (d : Word) (s : State) : (storeTol d s).rawlen = s.rawlen := rfl
@[simp] theorem storeTol_unit (d : Word) (s : State) : (storeTol d s).unit = s.unit := rfl
@[simp] theorem storeTol_tol (d : Word) (s : State) : (storeTol d s).tol = durField s.params d := rfl
@[simp] theorem storeTol_rawval (d : Word) (s : State) : (storeTol d s).rawval = s.rawval := rfl
@[simp] theorem storeTol_diagReason (d : Word) (s : State) : (storeTol d s).diagReason = s.diagReason := rfl
@[simp] theorem storeTol_diagPos (d : Word) (s : State) : (storeTol d s).diagPos = s.diagPos := rfl
@[simp] theorem storeTol_diagNbits (d : Word) (s : State) : (storeTol d s).diagNbits = s.diagNbits := rfl
@[simp] theorem storeTol_fsm (d : Word) (s : State) : (storeTol d s).fsm = s.fsm := rfl
@[simp] theorem storeTol_off (d : Word) (s : State) : (storeTol d s).off = s.off := rfl
@[simp] theorem storeTol_used (d : Word) (s : State) : (storeTol d s).used = s.used := rfl
@[simp] theorem storeTol_cur (d : Word) (s : State) : (storeTol d s).cur = s.cur := rfl
@[simp] theorem storeTol_acc (d : Word) (s : State) : (storeTol d s).acc = s.acc := rfl
@[simp] theorem storeTol_nb (d : Word) (s : State) : (storeTol d s).nb = s.nb := rfl
@[simp] theorem storeTol_lvlA (d : Word) (s : State) : (storeTol d s).lvlA = s.lvlA := rfl
@[simp] theorem storeTol_params (d : Word) (s : State) : (storeTol d s).params = s.params := rfl
@[simp] theorem storeTol_cap (d : Word) (s : State) : (storeTol d s).cap = s.cap := rfl
@[simp] theorem storeTol_unbacked (d : Word) (s : State) : (storeTol d s).unbacked = s.unbacked := rfl
@[simp] theorem storeTol_draws (d : Word) (s : State) : (storeTol d s).draws = s.draws := rfl
@[simp] theorem storeTol_rdata (d : Word) (s : State) : (storeTol d s).rdata = s.rdata := rfl
@[simp] theorem storeTol_inbox (d : Word) (s : State) : (storeTol d s).inbox = s.inbox := rfl

/-! ### initCursor -/

@[simp] theorem initCursor_done (s : State) : (initCursor s).done = s.done := rfl
@[simp] theorem initCursor_result (s : State) : (initCursor s).result = s.result := rfl
@[simp] theorem initCursor_cmderr (s : State) : (initCursor s).cmderr = s.cmderr := rfl
@[simp] theorem initCursor_lcm (s : State) : (initCursor s).lcm = s.lcm := rfl
@[simp] theorem initCursor_diagEn (s : State) : (initCursor s).diagEn = s.diagEn := rfl
@[simp] theorem initCursor_ie (s : State) : (initCursor s).ie = s.ie := rfl
@[simp] theorem initCursor_rawlen (s : State) : (initCursor s).rawlen = s.rawlen := rfl
@[simp] theorem initCursor_unit (s : State) : (initCursor s).unit = s.unit := rfl
@[simp] theorem initCursor_tol (s : State) : (initCursor s).tol = s.tol := rfl
@[simp] theorem initCursor_rawval (s : State) : (initCursor s).rawval = s.rawval := rfl
@[simp] theorem initCursor_diagReason (s : State) : (initCursor s).diagReason = s.diagReason := rfl
@[simp] theorem initCursor_diagPos (s : State) : (initCursor s).diagPos = s.diagPos := rfl
@[simp] theorem initCursor_diagNbits (s : State) : (initCursor s).diagNbits = s.diagNbits := rfl
@[simp] theorem initCursor_fsm (s : State) : (initCursor s).fsm = .start := rfl
@[simp] theorem initCursor_off (s : State) : (initCursor s).off = 1 := rfl
@[simp] theorem initCursor_used (s : State) : (initCursor s).used = 0 := rfl
@[simp] theorem initCursor_cur (s : State) : (initCursor s).cur = 0 := rfl
@[simp] theorem initCursor_acc (s : State) : (initCursor s).acc = s.acc := rfl
@[simp] theorem initCursor_nb (s : State) : (initCursor s).nb = s.nb := rfl
@[simp] theorem initCursor_lvlA (s : State) : (initCursor s).lvlA = s.lvlA := rfl
@[simp] theorem initCursor_params (s : State) : (initCursor s).params = s.params := rfl
@[simp] theorem initCursor_cap (s : State) : (initCursor s).cap = s.cap := rfl
@[simp] theorem initCursor_unbacked (s : State) : (initCursor s).unbacked = s.unbacked := rfl
@[simp] theorem initCursor_draws (s : State) : (initCursor s).draws = s.draws := rfl
@[simp] theorem initCursor_rdata (s : State) : (initCursor s).rdata = s.rdata := rfl
@[simp] theorem initCursor_inbox (s : State) : (initCursor s).inbox = s.inbox := rfl

/-! ### initBits -/

@[simp] theorem initBits_done (s : State) : (initBits s).done = s.done := rfl
@[simp] theorem initBits_result (s : State) : (initBits s).result = s.result := rfl
@[simp] theorem initBits_cmderr (s : State) : (initBits s).cmderr = s.cmderr := rfl
@[simp] theorem initBits_lcm (s : State) : (initBits s).lcm = s.lcm := rfl
@[simp] theorem initBits_diagEn (s : State) : (initBits s).diagEn = s.diagEn := rfl
@[simp] theorem initBits_ie (s : State) : (initBits s).ie = s.ie := rfl
@[simp] theorem initBits_rawlen (s : State) : (initBits s).rawlen = s.rawlen := rfl
@[simp] theorem initBits_unit (s : State) : (initBits s).unit = s.unit := rfl
@[simp] theorem initBits_tol (s : State) : (initBits s).tol = s.tol := rfl
@[simp] theorem initBits_rawval (s : State) : (initBits s).rawval = s.rawval := rfl
@[simp] theorem initBits_diagReason (s : State) : (initBits s).diagReason = s.diagReason := rfl
@[simp] theorem initBits_diagPos (s : State) : (initBits s).diagPos = s.diagPos := rfl
@[simp] theorem initBits_diagNbits (s : State) : (initBits s).diagNbits = s.diagNbits := rfl
@[simp] theorem initBits_fsm (s : State) : (initBits s).fsm = .pairA := rfl
@[simp] theorem initBits_off (s : State) : (initBits s).off = s.off := rfl
@[simp] theorem initBits_used (s : State) : (initBits s).used = s.used := rfl
@[simp] theorem initBits_cur (s : State) : (initBits s).cur = s.cur := rfl
@[simp] theorem initBits_acc (s : State) : (initBits s).acc = 0 := rfl
@[simp] theorem initBits_nb (s : State) : (initBits s).nb = 0 := rfl
@[simp] theorem initBits_lvlA (s : State) : (initBits s).lvlA = s.lvlA := rfl
@[simp] theorem initBits_params (s : State) : (initBits s).params = s.params := rfl
@[simp] theorem initBits_cap (s : State) : (initBits s).cap = s.cap := rfl
@[simp] theorem initBits_unbacked (s : State) : (initBits s).unbacked = s.unbacked := rfl
@[simp] theorem initBits_draws (s : State) : (initBits s).draws = s.draws := rfl
@[simp] theorem initBits_rdata (s : State) : (initBits s).rdata = s.rdata := rfl
@[simp] theorem initBits_inbox (s : State) : (initBits s).inbox = s.inbox := rfl

/-! ### latchLevel -/

@[simp] theorem latchLevel_done (a : Level) (s : State) : (latchLevel a s).done = s.done := rfl
@[simp] theorem latchLevel_result (a : Level) (s : State) : (latchLevel a s).result = s.result := rfl
@[simp] theorem latchLevel_cmderr (a : Level) (s : State) : (latchLevel a s).cmderr = s.cmderr := rfl
@[simp] theorem latchLevel_lcm (a : Level) (s : State) : (latchLevel a s).lcm = s.lcm := rfl
@[simp] theorem latchLevel_diagEn (a : Level) (s : State) : (latchLevel a s).diagEn = s.diagEn := rfl
@[simp] theorem latchLevel_ie (a : Level) (s : State) : (latchLevel a s).ie = s.ie := rfl
@[simp] theorem latchLevel_rawlen (a : Level) (s : State) : (latchLevel a s).rawlen = s.rawlen := rfl
@[simp] theorem latchLevel_unit (a : Level) (s : State) : (latchLevel a s).unit = s.unit := rfl
@[simp] theorem latchLevel_tol (a : Level) (s : State) : (latchLevel a s).tol = s.tol := rfl
@[simp] theorem latchLevel_rawval (a : Level) (s : State) : (latchLevel a s).rawval = s.rawval := rfl
@[simp] theorem latchLevel_diagReason (a : Level) (s : State) : (latchLevel a s).diagReason = s.diagReason := rfl
@[simp] theorem latchLevel_diagPos (a : Level) (s : State) : (latchLevel a s).diagPos = s.diagPos := rfl
@[simp] theorem latchLevel_diagNbits (a : Level) (s : State) : (latchLevel a s).diagNbits = s.diagNbits := rfl
@[simp] theorem latchLevel_fsm (a : Level) (s : State) : (latchLevel a s).fsm = .pairB := rfl
@[simp] theorem latchLevel_off (a : Level) (s : State) : (latchLevel a s).off = s.off := rfl
@[simp] theorem latchLevel_used (a : Level) (s : State) : (latchLevel a s).used = s.used := rfl
@[simp] theorem latchLevel_cur (a : Level) (s : State) : (latchLevel a s).cur = s.cur := rfl
@[simp] theorem latchLevel_acc (a : Level) (s : State) : (latchLevel a s).acc = s.acc := rfl
@[simp] theorem latchLevel_nb (a : Level) (s : State) : (latchLevel a s).nb = s.nb := rfl
@[simp] theorem latchLevel_lvlA (a : Level) (s : State) : (latchLevel a s).lvlA = a := rfl
@[simp] theorem latchLevel_params (a : Level) (s : State) : (latchLevel a s).params = s.params := rfl
@[simp] theorem latchLevel_cap (a : Level) (s : State) : (latchLevel a s).cap = s.cap := rfl
@[simp] theorem latchLevel_unbacked (a : Level) (s : State) : (latchLevel a s).unbacked = s.unbacked := rfl
@[simp] theorem latchLevel_draws (a : Level) (s : State) : (latchLevel a s).draws = s.draws := rfl
@[simp] theorem latchLevel_rdata (a : Level) (s : State) : (latchLevel a s).rdata = s.rdata := rfl
@[simp] theorem latchLevel_inbox (a : Level) (s : State) : (latchLevel a s).inbox = s.inbox := rfl

/-! ### takeBit -/

@[simp] theorem takeBit_done (b : Bool) (s : State) : (takeBit b s).done = s.done := rfl
@[simp] theorem takeBit_result (b : Bool) (s : State) : (takeBit b s).result = s.result := rfl
@[simp] theorem takeBit_cmderr (b : Bool) (s : State) : (takeBit b s).cmderr = s.cmderr := rfl
@[simp] theorem takeBit_lcm (b : Bool) (s : State) : (takeBit b s).lcm = s.lcm := rfl
@[simp] theorem takeBit_diagEn (b : Bool) (s : State) : (takeBit b s).diagEn = s.diagEn := rfl
@[simp] theorem takeBit_ie (b : Bool) (s : State) : (takeBit b s).ie = s.ie := rfl
@[simp] theorem takeBit_rawlen (b : Bool) (s : State) : (takeBit b s).rawlen = s.rawlen := rfl
@[simp] theorem takeBit_unit (b : Bool) (s : State) : (takeBit b s).unit = s.unit := rfl
@[simp] theorem takeBit_tol (b : Bool) (s : State) : (takeBit b s).tol = s.tol := rfl
@[simp] theorem takeBit_rawval (b : Bool) (s : State) : (takeBit b s).rawval = s.rawval := rfl
@[simp] theorem takeBit_diagReason (b : Bool) (s : State) : (takeBit b s).diagReason = s.diagReason := rfl
@[simp] theorem takeBit_diagPos (b : Bool) (s : State) : (takeBit b s).diagPos = s.diagPos := rfl
@[simp] theorem takeBit_diagNbits (b : Bool) (s : State) : (takeBit b s).diagNbits = s.diagNbits := rfl
@[simp] theorem takeBit_fsm (b : Bool) (s : State) : (takeBit b s).fsm = .pairA := rfl
@[simp] theorem takeBit_off (b : Bool) (s : State) : (takeBit b s).off = s.off := rfl
@[simp] theorem takeBit_used (b : Bool) (s : State) : (takeBit b s).used = s.used := rfl
@[simp] theorem takeBit_cur (b : Bool) (s : State) : (takeBit b s).cur = s.cur := rfl
@[simp] theorem takeBit_acc (b : Bool) (s : State) : (takeBit b s).acc = (s.acc <<< 1) ||| (BitVec.ofBool b).setWidth 23 := rfl
@[simp] theorem takeBit_nb (b : Bool) (s : State) : (takeBit b s).nb = s.nb + 1 := rfl
@[simp] theorem takeBit_lvlA (b : Bool) (s : State) : (takeBit b s).lvlA = s.lvlA := rfl
@[simp] theorem takeBit_params (b : Bool) (s : State) : (takeBit b s).params = s.params := rfl
@[simp] theorem takeBit_cap (b : Bool) (s : State) : (takeBit b s).cap = s.cap := rfl
@[simp] theorem takeBit_unbacked (b : Bool) (s : State) : (takeBit b s).unbacked = s.unbacked := rfl
@[simp] theorem takeBit_draws (b : Bool) (s : State) : (takeBit b s).draws = s.draws := rfl
@[simp] theorem takeBit_rdata (b : Bool) (s : State) : (takeBit b s).rdata = s.rdata := rfl
@[simp] theorem takeBit_inbox (b : Bool) (s : State) : (takeBit b s).inbox = s.inbox := rfl

/-! ### dropTurn -/

@[simp] theorem dropTurn_done (s : State) : (dropTurn s).done = s.done := rfl
@[simp] theorem dropTurn_result (s : State) : (dropTurn s).result = s.result := rfl
@[simp] theorem dropTurn_cmderr (s : State) : (dropTurn s).cmderr = s.cmderr := rfl
@[simp] theorem dropTurn_lcm (s : State) : (dropTurn s).lcm = s.lcm := rfl
@[simp] theorem dropTurn_diagEn (s : State) : (dropTurn s).diagEn = s.diagEn := rfl
@[simp] theorem dropTurn_ie (s : State) : (dropTurn s).ie = s.ie := rfl
@[simp] theorem dropTurn_rawlen (s : State) : (dropTurn s).rawlen = s.rawlen := rfl
@[simp] theorem dropTurn_unit (s : State) : (dropTurn s).unit = s.unit := rfl
@[simp] theorem dropTurn_tol (s : State) : (dropTurn s).tol = s.tol := rfl
@[simp] theorem dropTurn_rawval (s : State) : (dropTurn s).rawval = s.rawval := rfl
@[simp] theorem dropTurn_diagReason (s : State) : (dropTurn s).diagReason = s.diagReason := rfl
@[simp] theorem dropTurn_diagPos (s : State) : (dropTurn s).diagPos = s.diagPos := rfl
@[simp] theorem dropTurn_diagNbits (s : State) : (dropTurn s).diagNbits = s.diagNbits := rfl
@[simp] theorem dropTurn_fsm (s : State) : (dropTurn s).fsm = s.fsm := rfl
@[simp] theorem dropTurn_off (s : State) : (dropTurn s).off = s.off := rfl
@[simp] theorem dropTurn_used (s : State) : (dropTurn s).used = s.used := rfl
@[simp] theorem dropTurn_cur (s : State) : (dropTurn s).cur = s.cur := rfl
@[simp] theorem dropTurn_acc (s : State) : (dropTurn s).acc = s.acc := rfl
@[simp] theorem dropTurn_nb (s : State) : (dropTurn s).nb = s.nb := rfl
@[simp] theorem dropTurn_lvlA (s : State) : (dropTurn s).lvlA = s.lvlA := rfl
@[simp] theorem dropTurn_params (s : State) : (dropTurn s).params = s.params := rfl
@[simp] theorem dropTurn_cap (s : State) : (dropTurn s).cap = s.cap := rfl
@[simp] theorem dropTurn_unbacked (s : State) : (dropTurn s).unbacked = s.unbacked := rfl
@[simp] theorem dropTurn_draws (s : State) : (dropTurn s).draws = s.draws := rfl
@[simp] theorem dropTurn_rdata (s : State) : (dropTurn s).rdata = s.rdata := rfl
@[simp] theorem dropTurn_inbox (s : State) : (dropTurn s).inbox = s.inbox.tail := rfl

/-! ### pushTurn -/

@[simp] theorem pushTurn_done (t : Turn) (s : State) : (pushTurn t s).done = s.done := rfl
@[simp] theorem pushTurn_result (t : Turn) (s : State) : (pushTurn t s).result = s.result := rfl
@[simp] theorem pushTurn_cmderr (t : Turn) (s : State) : (pushTurn t s).cmderr = s.cmderr := rfl
@[simp] theorem pushTurn_lcm (t : Turn) (s : State) : (pushTurn t s).lcm = s.lcm := rfl
@[simp] theorem pushTurn_diagEn (t : Turn) (s : State) : (pushTurn t s).diagEn = s.diagEn := rfl
@[simp] theorem pushTurn_ie (t : Turn) (s : State) : (pushTurn t s).ie = s.ie := rfl
@[simp] theorem pushTurn_rawlen (t : Turn) (s : State) : (pushTurn t s).rawlen = s.rawlen := rfl
@[simp] theorem pushTurn_unit (t : Turn) (s : State) : (pushTurn t s).unit = s.unit := rfl
@[simp] theorem pushTurn_tol (t : Turn) (s : State) : (pushTurn t s).tol = s.tol := rfl
@[simp] theorem pushTurn_rawval (t : Turn) (s : State) : (pushTurn t s).rawval = s.rawval := rfl
@[simp] theorem pushTurn_diagReason (t : Turn) (s : State) : (pushTurn t s).diagReason = s.diagReason := rfl
@[simp] theorem pushTurn_diagPos (t : Turn) (s : State) : (pushTurn t s).diagPos = s.diagPos := rfl
@[simp] theorem pushTurn_diagNbits (t : Turn) (s : State) : (pushTurn t s).diagNbits = s.diagNbits := rfl
@[simp] theorem pushTurn_fsm (t : Turn) (s : State) : (pushTurn t s).fsm = s.fsm := rfl
@[simp] theorem pushTurn_off (t : Turn) (s : State) : (pushTurn t s).off = s.off := rfl
@[simp] theorem pushTurn_used (t : Turn) (s : State) : (pushTurn t s).used = s.used := rfl
@[simp] theorem pushTurn_cur (t : Turn) (s : State) : (pushTurn t s).cur = s.cur := rfl
@[simp] theorem pushTurn_acc (t : Turn) (s : State) : (pushTurn t s).acc = s.acc := rfl
@[simp] theorem pushTurn_nb (t : Turn) (s : State) : (pushTurn t s).nb = s.nb := rfl
@[simp] theorem pushTurn_lvlA (t : Turn) (s : State) : (pushTurn t s).lvlA = s.lvlA := rfl
@[simp] theorem pushTurn_params (t : Turn) (s : State) : (pushTurn t s).params = s.params := rfl
@[simp] theorem pushTurn_cap (t : Turn) (s : State) : (pushTurn t s).cap = s.cap := rfl
@[simp] theorem pushTurn_unbacked (t : Turn) (s : State) : (pushTurn t s).unbacked = s.unbacked := rfl
@[simp] theorem pushTurn_draws (t : Turn) (s : State) : (pushTurn t s).draws = s.draws := rfl
@[simp] theorem pushTurn_rdata (t : Turn) (s : State) : (pushTurn t s).rdata = s.rdata := rfl
@[simp] theorem pushTurn_inbox (t : Turn) (s : State) : (pushTurn t s).inbox = t :: s.inbox := rfl

/-! ### resetMdec: every field not the platform's takes its reset value -/

@[simp] theorem resetMdec_done (s : State) : (resetMdec s).done = State.reset.done := rfl
@[simp] theorem resetMdec_result (s : State) : (resetMdec s).result = State.reset.result := rfl
@[simp] theorem resetMdec_cmderr (s : State) : (resetMdec s).cmderr = State.reset.cmderr := rfl
@[simp] theorem resetMdec_lcm (s : State) : (resetMdec s).lcm = State.reset.lcm := rfl
@[simp] theorem resetMdec_diagEn (s : State) : (resetMdec s).diagEn = State.reset.diagEn := rfl
@[simp] theorem resetMdec_ie (s : State) : (resetMdec s).ie = State.reset.ie := rfl
@[simp] theorem resetMdec_rawlen (s : State) : (resetMdec s).rawlen = State.reset.rawlen := rfl
@[simp] theorem resetMdec_unit (s : State) : (resetMdec s).unit = State.reset.unit := rfl
@[simp] theorem resetMdec_tol (s : State) : (resetMdec s).tol = State.reset.tol := rfl
@[simp] theorem resetMdec_rawval (s : State) : (resetMdec s).rawval = State.reset.rawval := rfl
@[simp] theorem resetMdec_diagReason (s : State) : (resetMdec s).diagReason = State.reset.diagReason := rfl
@[simp] theorem resetMdec_diagPos (s : State) : (resetMdec s).diagPos = State.reset.diagPos := rfl
@[simp] theorem resetMdec_diagNbits (s : State) : (resetMdec s).diagNbits = State.reset.diagNbits := rfl
@[simp] theorem resetMdec_fsm (s : State) : (resetMdec s).fsm = State.reset.fsm := rfl
@[simp] theorem resetMdec_off (s : State) : (resetMdec s).off = State.reset.off := rfl
@[simp] theorem resetMdec_used (s : State) : (resetMdec s).used = State.reset.used := rfl
@[simp] theorem resetMdec_cur (s : State) : (resetMdec s).cur = State.reset.cur := rfl
@[simp] theorem resetMdec_acc (s : State) : (resetMdec s).acc = State.reset.acc := rfl
@[simp] theorem resetMdec_nb (s : State) : (resetMdec s).nb = State.reset.nb := rfl
@[simp] theorem resetMdec_lvlA (s : State) : (resetMdec s).lvlA = State.reset.lvlA := rfl
@[simp] theorem resetMdec_params (s : State) : (resetMdec s).params = s.params := rfl
@[simp] theorem resetMdec_cap (s : State) : (resetMdec s).cap = s.cap := rfl
@[simp] theorem resetMdec_unbacked (s : State) : (resetMdec s).unbacked = s.unbacked := rfl
@[simp] theorem resetMdec_draws (s : State) : (resetMdec s).draws = s.draws := rfl
@[simp] theorem resetMdec_rdata (s : State) : (resetMdec s).rdata = s.rdata := rfl
@[simp] theorem resetMdec_inbox (s : State) : (resetMdec s).inbox = s.inbox := rfl

/-! ### complete -/

@[simp] theorem complete_done (r : Result) (q : Reason) (s : State) :
    (complete r q s).done = true := rfl
@[simp] theorem complete_result (r : Result) (q : Reason) (s : State) :
    (complete r q s).result = r := rfl
@[simp] theorem complete_cmderr (r : Result) (q : Reason) (s : State) :
    (complete r q s).cmderr = s.cmderr := by
  unfold complete writeDiag
  split <;> rfl
@[simp] theorem complete_lcm (r : Result) (q : Reason) (s : State) :
    (complete r q s).lcm = s.lcm := by
  unfold complete writeDiag
  split <;> rfl
@[simp] theorem complete_diagEn (r : Result) (q : Reason) (s : State) :
    (complete r q s).diagEn = s.diagEn := by
  unfold complete writeDiag
  split <;> rfl
@[simp] theorem complete_ie (r : Result) (q : Reason) (s : State) :
    (complete r q s).ie = s.ie := by
  unfold complete writeDiag
  split <;> rfl
@[simp] theorem complete_rawlen (r : Result) (q : Reason) (s : State) :
    (complete r q s).rawlen = s.rawlen := by
  unfold complete writeDiag
  split <;> rfl
@[simp] theorem complete_unit (r : Result) (q : Reason) (s : State) :
    (complete r q s).unit = s.unit := by
  unfold complete writeDiag
  split <;> rfl
@[simp] theorem complete_tol (r : Result) (q : Reason) (s : State) :
    (complete r q s).tol = s.tol := by
  unfold complete writeDiag
  split <;> rfl
@[simp] theorem complete_rawval (r : Result) (q : Reason) (s : State) :
    (complete r q s).rawval = if r = .success then s.acc else 0 := by
  unfold complete writeDiag
  split <;> rfl
@[simp] theorem complete_diagReason (r : Result) (q : Reason) (s : State) :
    (complete r q s).diagReason = if s.diagEn then q else s.diagReason := by
  unfold complete writeDiag
  split <;> rfl
@[simp] theorem complete_diagPos (r : Result) (q : Reason) (s : State) :
    (complete r q s).diagPos = if s.diagEn then (if r = .rejected then 0 else s.off) else s.diagPos := by
  unfold complete writeDiag
  split <;> rfl
@[simp] theorem complete_diagNbits (r : Result) (q : Reason) (s : State) :
    (complete r q s).diagNbits = if s.diagEn then (if r = .rejected then 0 else bitsDecoded s) else s.diagNbits := by
  unfold complete writeDiag
  split <;> rfl
@[simp] theorem complete_fsm (r : Result) (q : Reason) (s : State) :
    (complete r q s).fsm = .idle := rfl
@[simp] theorem complete_off (r : Result) (q : Reason) (s : State) :
    (complete r q s).off = s.off := by
  unfold complete writeDiag
  split <;> rfl
@[simp] theorem complete_used (r : Result) (q : Reason) (s : State) :
    (complete r q s).used = s.used := by
  unfold complete writeDiag
  split <;> rfl
@[simp] theorem complete_cur (r : Result) (q : Reason) (s : State) :
    (complete r q s).cur = s.cur := by
  unfold complete writeDiag
  split <;> rfl
@[simp] theorem complete_acc (r : Result) (q : Reason) (s : State) :
    (complete r q s).acc = s.acc := by
  unfold complete writeDiag
  split <;> rfl
@[simp] theorem complete_nb (r : Result) (q : Reason) (s : State) :
    (complete r q s).nb = s.nb := by
  unfold complete writeDiag
  split <;> rfl
@[simp] theorem complete_lvlA (r : Result) (q : Reason) (s : State) :
    (complete r q s).lvlA = s.lvlA := by
  unfold complete writeDiag
  split <;> rfl
@[simp] theorem complete_params (r : Result) (q : Reason) (s : State) :
    (complete r q s).params = s.params := by
  unfold complete writeDiag
  split <;> rfl
@[simp] theorem complete_cap (r : Result) (q : Reason) (s : State) :
    (complete r q s).cap = s.cap := by
  unfold complete writeDiag
  split <;> rfl
@[simp] theorem complete_unbacked (r : Result) (q : Reason) (s : State) :
    (complete r q s).unbacked = s.unbacked := by
  unfold complete writeDiag
  split <;> rfl
@[simp] theorem complete_draws (r : Result) (q : Reason) (s : State) :
    (complete r q s).draws = s.draws := by
  unfold complete writeDiag
  split <;> rfl
@[simp] theorem complete_rdata (r : Result) (q : Reason) (s : State) :
    (complete r q s).rdata = s.rdata := by
  unfold complete writeDiag
  split <;> rfl
@[simp] theorem complete_inbox (r : Result) (q : Reason) (s : State) :
    (complete r q s).inbox = s.inbox := by
  unfold complete writeDiag
  split <;> rfl

/-! ### advance, capRead and sample: only the cursor and the count of draws can change -/

@[simp] theorem advance_done (k : Nat) (s : State) : (advance k s).done = s.done := by
  unfold advance
  split <;> rfl
@[simp] theorem advance_result (k : Nat) (s : State) : (advance k s).result = s.result := by
  unfold advance
  split <;> rfl
@[simp] theorem advance_cmderr (k : Nat) (s : State) : (advance k s).cmderr = s.cmderr := by
  unfold advance
  split <;> rfl
@[simp] theorem advance_lcm (k : Nat) (s : State) : (advance k s).lcm = s.lcm := by
  unfold advance
  split <;> rfl
@[simp] theorem advance_diagEn (k : Nat) (s : State) : (advance k s).diagEn = s.diagEn := by
  unfold advance
  split <;> rfl
@[simp] theorem advance_ie (k : Nat) (s : State) : (advance k s).ie = s.ie := by
  unfold advance
  split <;> rfl
@[simp] theorem advance_rawlen (k : Nat) (s : State) : (advance k s).rawlen = s.rawlen := by
  unfold advance
  split <;> rfl
@[simp] theorem advance_unit (k : Nat) (s : State) : (advance k s).unit = s.unit := by
  unfold advance
  split <;> rfl
@[simp] theorem advance_tol (k : Nat) (s : State) : (advance k s).tol = s.tol := by
  unfold advance
  split <;> rfl
@[simp] theorem advance_rawval (k : Nat) (s : State) : (advance k s).rawval = s.rawval := by
  unfold advance
  split <;> rfl
@[simp] theorem advance_diagReason (k : Nat) (s : State) : (advance k s).diagReason = s.diagReason := by
  unfold advance
  split <;> rfl
@[simp] theorem advance_diagPos (k : Nat) (s : State) : (advance k s).diagPos = s.diagPos := by
  unfold advance
  split <;> rfl
@[simp] theorem advance_diagNbits (k : Nat) (s : State) : (advance k s).diagNbits = s.diagNbits := by
  unfold advance
  split <;> rfl
@[simp] theorem advance_fsm (k : Nat) (s : State) : (advance k s).fsm = s.fsm := by
  unfold advance
  split <;> rfl
@[simp] theorem advance_acc (k : Nat) (s : State) : (advance k s).acc = s.acc := by
  unfold advance
  split <;> rfl
@[simp] theorem advance_nb (k : Nat) (s : State) : (advance k s).nb = s.nb := by
  unfold advance
  split <;> rfl
@[simp] theorem advance_lvlA (k : Nat) (s : State) : (advance k s).lvlA = s.lvlA := by
  unfold advance
  split <;> rfl
@[simp] theorem advance_params (k : Nat) (s : State) : (advance k s).params = s.params := by
  unfold advance
  split <;> rfl
@[simp] theorem advance_cap (k : Nat) (s : State) : (advance k s).cap = s.cap := by
  unfold advance
  split <;> rfl
@[simp] theorem advance_unbacked (k : Nat) (s : State) : (advance k s).unbacked = s.unbacked := by
  unfold advance
  split <;> rfl
@[simp] theorem advance_draws (k : Nat) (s : State) : (advance k s).draws = s.draws := by
  unfold advance
  split <;> rfl
@[simp] theorem advance_rdata (k : Nat) (s : State) : (advance k s).rdata = s.rdata := by
  unfold advance
  split <;> rfl
@[simp] theorem advance_inbox (k : Nat) (s : State) : (advance k s).inbox = s.inbox := by
  unfold advance
  split <;> rfl
@[simp] theorem capRead_done (i : Nat) (s : State) : (capRead i s).2.done = s.done := by
  unfold capRead
  split <;> rfl
@[simp] theorem capRead_result (i : Nat) (s : State) : (capRead i s).2.result = s.result := by
  unfold capRead
  split <;> rfl
@[simp] theorem capRead_cmderr (i : Nat) (s : State) : (capRead i s).2.cmderr = s.cmderr := by
  unfold capRead
  split <;> rfl
@[simp] theorem capRead_lcm (i : Nat) (s : State) : (capRead i s).2.lcm = s.lcm := by
  unfold capRead
  split <;> rfl
@[simp] theorem capRead_diagEn (i : Nat) (s : State) : (capRead i s).2.diagEn = s.diagEn := by
  unfold capRead
  split <;> rfl
@[simp] theorem capRead_ie (i : Nat) (s : State) : (capRead i s).2.ie = s.ie := by
  unfold capRead
  split <;> rfl
@[simp] theorem capRead_rawlen (i : Nat) (s : State) : (capRead i s).2.rawlen = s.rawlen := by
  unfold capRead
  split <;> rfl
@[simp] theorem capRead_unit (i : Nat) (s : State) : (capRead i s).2.unit = s.unit := by
  unfold capRead
  split <;> rfl
@[simp] theorem capRead_tol (i : Nat) (s : State) : (capRead i s).2.tol = s.tol := by
  unfold capRead
  split <;> rfl
@[simp] theorem capRead_rawval (i : Nat) (s : State) : (capRead i s).2.rawval = s.rawval := by
  unfold capRead
  split <;> rfl
@[simp] theorem capRead_diagReason (i : Nat) (s : State) : (capRead i s).2.diagReason = s.diagReason := by
  unfold capRead
  split <;> rfl
@[simp] theorem capRead_diagPos (i : Nat) (s : State) : (capRead i s).2.diagPos = s.diagPos := by
  unfold capRead
  split <;> rfl
@[simp] theorem capRead_diagNbits (i : Nat) (s : State) : (capRead i s).2.diagNbits = s.diagNbits := by
  unfold capRead
  split <;> rfl
@[simp] theorem capRead_fsm (i : Nat) (s : State) : (capRead i s).2.fsm = s.fsm := by
  unfold capRead
  split <;> rfl
@[simp] theorem capRead_off (i : Nat) (s : State) : (capRead i s).2.off = s.off := by
  unfold capRead
  split <;> rfl
@[simp] theorem capRead_used (i : Nat) (s : State) : (capRead i s).2.used = s.used := by
  unfold capRead
  split <;> rfl
@[simp] theorem capRead_cur (i : Nat) (s : State) : (capRead i s).2.cur = s.cur := by
  unfold capRead
  split <;> rfl
@[simp] theorem capRead_acc (i : Nat) (s : State) : (capRead i s).2.acc = s.acc := by
  unfold capRead
  split <;> rfl
@[simp] theorem capRead_nb (i : Nat) (s : State) : (capRead i s).2.nb = s.nb := by
  unfold capRead
  split <;> rfl
@[simp] theorem capRead_lvlA (i : Nat) (s : State) : (capRead i s).2.lvlA = s.lvlA := by
  unfold capRead
  split <;> rfl
@[simp] theorem capRead_params (i : Nat) (s : State) : (capRead i s).2.params = s.params := by
  unfold capRead
  split <;> rfl
@[simp] theorem capRead_cap (i : Nat) (s : State) : (capRead i s).2.cap = s.cap := by
  unfold capRead
  split <;> rfl
@[simp] theorem capRead_unbacked (i : Nat) (s : State) : (capRead i s).2.unbacked = s.unbacked := by
  unfold capRead
  split <;> rfl
@[simp] theorem capRead_rdata (i : Nat) (s : State) : (capRead i s).2.rdata = s.rdata := by
  unfold capRead
  split <;> rfl
@[simp] theorem capRead_inbox (i : Nat) (s : State) : (capRead i s).2.inbox = s.inbox := by
  unfold capRead
  split <;> rfl
@[simp] theorem sample_done (s : State) : (sample s).2.done = s.done := by
  unfold sample
  split
  · rfl
  · split
    · split <;> simp
    · simp
@[simp] theorem sample_result (s : State) : (sample s).2.result = s.result := by
  unfold sample
  split
  · rfl
  · split
    · split <;> simp
    · simp
@[simp] theorem sample_cmderr (s : State) : (sample s).2.cmderr = s.cmderr := by
  unfold sample
  split
  · rfl
  · split
    · split <;> simp
    · simp
@[simp] theorem sample_lcm (s : State) : (sample s).2.lcm = s.lcm := by
  unfold sample
  split
  · rfl
  · split
    · split <;> simp
    · simp
@[simp] theorem sample_diagEn (s : State) : (sample s).2.diagEn = s.diagEn := by
  unfold sample
  split
  · rfl
  · split
    · split <;> simp
    · simp
@[simp] theorem sample_ie (s : State) : (sample s).2.ie = s.ie := by
  unfold sample
  split
  · rfl
  · split
    · split <;> simp
    · simp
@[simp] theorem sample_rawlen (s : State) : (sample s).2.rawlen = s.rawlen := by
  unfold sample
  split
  · rfl
  · split
    · split <;> simp
    · simp
@[simp] theorem sample_unit (s : State) : (sample s).2.unit = s.unit := by
  unfold sample
  split
  · rfl
  · split
    · split <;> simp
    · simp
@[simp] theorem sample_tol (s : State) : (sample s).2.tol = s.tol := by
  unfold sample
  split
  · rfl
  · split
    · split <;> simp
    · simp
@[simp] theorem sample_rawval (s : State) : (sample s).2.rawval = s.rawval := by
  unfold sample
  split
  · rfl
  · split
    · split <;> simp
    · simp
@[simp] theorem sample_diagReason (s : State) : (sample s).2.diagReason = s.diagReason := by
  unfold sample
  split
  · rfl
  · split
    · split <;> simp
    · simp
@[simp] theorem sample_diagPos (s : State) : (sample s).2.diagPos = s.diagPos := by
  unfold sample
  split
  · rfl
  · split
    · split <;> simp
    · simp
@[simp] theorem sample_diagNbits (s : State) : (sample s).2.diagNbits = s.diagNbits := by
  unfold sample
  split
  · rfl
  · split
    · split <;> simp
    · simp
@[simp] theorem sample_fsm (s : State) : (sample s).2.fsm = s.fsm := by
  unfold sample
  split
  · rfl
  · split
    · split <;> simp
    · simp
@[simp] theorem sample_acc (s : State) : (sample s).2.acc = s.acc := by
  unfold sample
  split
  · rfl
  · split
    · split <;> simp
    · simp
@[simp] theorem sample_nb (s : State) : (sample s).2.nb = s.nb := by
  unfold sample
  split
  · rfl
  · split
    · split <;> simp
    · simp
@[simp] theorem sample_lvlA (s : State) : (sample s).2.lvlA = s.lvlA := by
  unfold sample
  split
  · rfl
  · split
    · split <;> simp
    · simp
@[simp] theorem sample_params (s : State) : (sample s).2.params = s.params := by
  unfold sample
  split
  · rfl
  · split
    · split <;> simp
    · simp
@[simp] theorem sample_cap (s : State) : (sample s).2.cap = s.cap := by
  unfold sample
  split
  · rfl
  · split
    · split <;> simp
    · simp
@[simp] theorem sample_unbacked (s : State) : (sample s).2.unbacked = s.unbacked := by
  unfold sample
  split
  · rfl
  · split
    · split <;> simp
    · simp
@[simp] theorem sample_rdata (s : State) : (sample s).2.rdata = s.rdata := by
  unfold sample
  split
  · rfl
  · split
    · split <;> simp
    · simp
@[simp] theorem sample_inbox (s : State) : (sample s).2.inbox = s.inbox := by
  unfold sample
  split
  · rfl
  · split
    · split <;> simp
    · simp

end Sys2Proof.Machine
end

