-- ==== Sys2Proof/Laws/Ops.lean ====
section
/-! SUPPORT. Sys2Proof/Laws/Ops.lean: for each shared operation, one lemma that says all it can do. -/

namespace Sys2Proof.Machine

theorem lowBits_lt (n v : Nat) : lowBits n v < 2 ^ n :=
  Nat.mod_lt v (Nat.two_pow_pos n)

theorem lowBits_le (n v : Nat) : lowBits n v ≤ v :=
  Nat.mod_le v (2 ^ n)

/-- A field stored in `UNIT` or `TOL` is the low `DUR_W` bits of the data (R26, R27). -/
theorem durField_toNat (p : Params) (d : Word) : (durField p d).toNat = lowBits p.durW d.toNat := by
  have h := lowBits_le p.durW d.toNat
  simp only [durField, BitVec.toNat_ofNat]
  omega

theorem busy_eq_false {s : State} : busy s = false ↔ s.fsm = .idle := by
  simp [busy]

theorem busy_eq_true {s : State} : busy s = true ↔ s.fsm ≠ .idle := by
  simp [busy]

/-- A window holds a duration exactly when it lies within the tolerance of the multiple (R122). -/
theorem windowMatch_iff (t e w k : Nat) :
    windowMatch t e w k = true ↔ k * t ≤ w + e ∧ w ≤ k * t + e := by
  simp [windowMatch]

/-- A capture read answers the entry and changes nothing, or a draw and counts it (R64, R72). -/
theorem capRead_cases (i : Nat) (s : State) :
    (i ∉ s.unbacked ∧ capRead i s = (capEntry i s, s)) ∨
    (i ∈ s.unbacked ∧ capRead i s = (lowBits s.params.durW (Config.capDraw s.draws), { s with draws := s.draws + 1 })) := by
  by_cases h : i ∈ s.unbacked <;> simp [capRead, backed, h]

/-- The cursor moves to the next entry, or one unit on in an entry that has more (R123). -/
theorem advance_cases (k : Nat) (s : State) :
    (k ≤ s.used + 1 ∧ advance k s = { s with used := 0, cur := 0, off := s.off + 1 }) ∨
    (s.used + 1 < k ∧ advance k s = { s with used := s.used + 1, cur := k }) := by
  by_cases h : k ≤ s.used + 1
  · exact .inl ⟨h, by simp [advance, h]⟩
  · exact .inr ⟨by omega, by simp [advance, h]⟩

/-- A sample is EXHAUSTED, or ERROR at an entry outside every window, or the entry's level with the cursor moved by one
unit (R123). -/
theorem sample_cases (s : State) :
    (s.rawlen.toNat ≤ s.off.toNat ∧ sample s = (.exhausted, s)) ∨
    (s.off.toNat < s.rawlen.toNat ∧ s.cur = 0 ∧
      classifyEntry s (capRead s.off.toNat s).1 = none ∧
      sample s = (.error, (capRead s.off.toNat s).2)) ∨
    (s.off.toNat < s.rawlen.toNat ∧ s.cur = 0 ∧ ∃ k,
      classifyEntry s (capRead s.off.toNat s).1 = some k ∧
      sample s = ((levelAt s.off.toNat).toSample, advance k (capRead s.off.toNat s).2)) ∨
    (s.off.toNat < s.rawlen.toNat ∧ s.cur ≠ 0 ∧
      sample s = ((levelAt s.off.toNat).toSample, advance s.cur s)) := by
  by_cases h : s.rawlen.toNat ≤ s.off.toNat
  · exact .inl ⟨h, by simp [sample, h]⟩
  · by_cases hc : s.cur = 0
    · cases hk : classifyEntry s (capRead s.off.toNat s).1 with
      | none => exact .inr (.inl ⟨by omega, hc, rfl, by simp [sample, h, hc, hk]⟩)
      | some k => exact .inr (.inr (.inl ⟨by omega, hc, k, rfl, by simp [sample, h, hc, hk]⟩))
    · exact .inr (.inr (.inr ⟨by omega, hc, by simp [sample, h, hc]⟩))

/-- A classification is a multiple in 1 to `MAX_UNITS` that matches (R122). -/
theorem classify_some {n t e w k : Nat} (h : classify n t e w = some k) :
    1 ≤ k ∧ k ≤ n ∧ windowMatch t e w k = true := by
  have hm := List.mem_of_find?_eq_some h
  have hw := List.find?_some h
  rw [List.mem_range'_1] at hm
  exact ⟨by omega, by omega, hw⟩

/-- What `h.nb` is: none before START has written it in this decode, and otherwise what is stored (R45). -/
theorem bitsDecoded_eq (s : State) :
    bitsDecoded s = if s.fsm = .lenchk ∨ s.fsm = .start then 0 else s.nb := by
  cases h : s.fsm <;> simp [bitsDecoded, h]

theorem startDecode_cases (s : State) :
    (s.fsm = .idle ∧ startDecode s = { clearResults s with fsm := .lenchk }) ∨
    (s.fsm ≠ .idle ∧ startDecode s = setCmderr s) := by
  by_cases h : s.fsm = .idle <;> simp [startDecode, busy, h]

theorem acknowledge_cases (s : State) :
    (s.fsm = .idle ∧ acknowledge s = { clearResults s with cmderr := false }) ∨
    (s.fsm ≠ .idle ∧ acknowledge s = setCmderr s) := by
  by_cases h : s.fsm = .idle <;> simp [acknowledge, busy, h]

/-- A command is a NOP, a DECODE, a CLEAR, or reserved (R83). -/
theorem runCommand_cases (op : BitVec 8) (s : State) :
    (op.toNat = 0 ∧ runCommand op s = s) ∨ (op.toNat = 1 ∧ runCommand op s = startDecode s) ∨
    (op.toNat = 2 ∧ runCommand op s = acknowledge s) ∨ (3 ≤ op.toNat ∧ runCommand op s = setCmderr s) := by
  unfold runCommand
  split
  · exact .inl ⟨‹_›, rfl⟩
  · split
    · exact .inr (.inl ⟨‹_›, rfl⟩)
    · split
      · exact .inr (.inr (.inl ⟨‹_›, rfl⟩))
      · exact .inr (.inr (.inr ⟨by omega, rfl⟩))

theorem lenchkStep_cases (s : State) :
    (lengthRejects s.rawlen.toNat s.lcm = true ∧ lenchkStep s = complete .rejected .length s) ∨
    (lengthRejects s.rawlen.toNat s.lcm = false ∧ lenchkStep s = initCursor s) := by
  cases h : lengthRejects s.rawlen.toNat s.lcm <;> simp [lenchkStep, h]

theorem finishFrame_cases (s : State) :
    (s.nb.toNat = 23 ∧ finishFrame s = complete .success .none s) ∨
    (s.nb.toNat ≠ 23 ∧ finishFrame s = complete .malformed .bitcount s) := by
  by_cases h : s.nb.toNat = 23 <;> simp [finishFrame, Config.bitWidth, h]

/-- A pair appends a bit or ends the decode MALFORMED (R145, R146). -/
theorem applyPair_cases (a b : Level) (s : State) :
    (a ≠ b ∧ applyPair (pairDecode a b) s = takeBit (a == .mark) s) ∨
    (a = b ∧ applyPair (pairDecode a b) s = complete .malformed .pair s) := by
  cases a <;> cases b <;> first | exact .inl ⟨by decide, rfl⟩ | exact .inr ⟨rfl, rfl⟩

end Sys2Proof.Machine
end

