-- ==== Sys2Proof/Laws/Cursor.lean ====
section
/-! SUPPORT. Sys2Proof/Laws/Cursor.lean: what a sample does to the cursor, said once for every `MAX_UNITS`. -/

namespace Sys2Proof.Machine

/-- One unit of an entry inside the frame keeps the cursor in bounds and passes at least one more unit. -/
theorem advance_cursor {k : Nat} {s : State} (hk : k ≤ s.params.maxUnits) (hu : s.used < k) (h1 : 1 ≤ s.off.toNat)
    (hl : s.off.toNat < s.rawlen.toNat) :
    CursorOk (advance k s) ∧ s.off.toNat ≤ (advance k s).off.toNat ∧ (advance k s).off.toNat ≤ s.rawlen.toNat ∧
      unitsPassed s + 1 ≤ unitsPassed (advance k s) := by
  rcases advance_cases k s with ⟨_, h⟩ | ⟨hlt, h⟩ <;> rw [h]
  · have ho : (s.off + 1).toNat = s.off.toNat + 1 := by
      have := s.rawlen.isLt
      bv_omega
    refine ⟨.inl ⟨rfl, rfl⟩, by simp only [ho]; omega, by simp only [ho]; omega, ?_⟩
    simp only [unitsPassed, ho, Nat.add_sub_cancel]
    obtain ⟨p, hp⟩ : ∃ p, s.off.toNat = p + 1 := ⟨s.off.toNat - 1, by omega⟩
    rw [hp, Nat.add_sub_cancel, Nat.mul_succ]
    omega
  · refine ⟨.inr ⟨by simp, hlt, hk, hl⟩, le_rfl, hl.le, ?_⟩
    simp only [unitsPassed]
    omega

/-- A sample that is a level was taken inside the frame, keeps the cursor in bounds and passes at least one more unit. -/
theorem sample_cursor {s u : State} {a : Level} (hc : CursorOk s) (h1 : 1 ≤ s.off.toNat)
    (h : sample s = (a.toSample, u)) :
    CursorOk u ∧ s.off.toNat ≤ u.off.toNat ∧ u.off.toNat ≤ s.rawlen.toNat ∧ unitsPassed s + 1 ≤ unitsPassed u := by
  rcases sample_cases s with ⟨_, hs⟩ | ⟨_, _, _, hs⟩ | ⟨hl, h0, k, hk, hs⟩ | ⟨hl, h0, hs⟩ <;> rw [hs] at h
  · cases a <;> cases h
  · cases a <;> cases h
  · obtain ⟨_, rfl⟩ := Prod.mk.inj h
    obtain ⟨hk1, hkn, _⟩ := classify_some hk
    have hu : s.used = 0 := by
      rcases hc with ⟨_, hu⟩ | ⟨_, hu, _, _⟩
      · exact hu
      · omega
    have := advance_cursor (k := k) (s := (capRead s.off.toNat s).2) (by simpa using hkn) (by simp [hu]; omega)
      (by simpa using h1) (by simpa using hl)
    simpa [unitsPassed] using this
  · obtain ⟨_, rfl⟩ := Prod.mk.inj h
    rcases hc with ⟨h0', _⟩ | ⟨_, hu, hkn, _⟩
    · exact absurd h0' h0
    · exact advance_cursor hkn hu h1 hl

end Sys2Proof.Machine
end

