-- ==== Sys2Proof/Laws/Memory.lean ====
section
/-! SUPPORT. Sys2Proof/Laws/Memory.lean: the laws of capture memory: a read after a write, and that every operation keeps
the canonical form. -/

namespace Sys2Proof.Machine

theorem Memory.lookup_write_self (i : Nat) (v : Nat) (m : Memory) :
    Memory.lookup i (Memory.write i v m) = some v := by
  induction m with
  | nil => simp [Memory.write, Memory.lookup]
  | cons p m ih =>
    obtain ⟨j, w⟩ := p
    unfold Memory.write
    split
    · simp [Memory.lookup]
    · split
      · simp [Memory.lookup]
      · next h => simp [Memory.lookup, Ne.symm h, ih]

theorem Memory.lookup_write_ne {i j : Nat} (h : j ≠ i) (v : Nat) (m : Memory) :
    Memory.lookup j (Memory.write i v m) = Memory.lookup j m := by
  induction m with
  | nil => simp [Memory.write, Memory.lookup, Ne.symm h]
  | cons p m ih =>
    obtain ⟨k, w⟩ := p
    unfold Memory.write
    split
    · simp [Memory.lookup, Ne.symm h]
    · split
      · next hk => subst hk; simp [Memory.lookup, Ne.symm h]
      · simp [Memory.lookup, ih]

/-- The canonical form of a longer list: the head lies below the next index, and the rest is canonical. -/
theorem Memory.wf_cons (i : Nat) (v : Nat) (m : Memory) :
    Memory.wf ((i, v) :: m) = true ↔
      i < 2 ^ Config.capIndexW ∧ (∀ p ∈ m.head?, i < p.1) ∧ Memory.wf m = true := by
  induction m generalizing i v with
  | nil => simp [Memory.wf]
  | cons p m ih =>
    obtain ⟨j, w⟩ := p
    have hj := ih j w
    simp only [Memory.wf, Bool.and_eq_true, decide_eq_true_eq, List.head?_cons, Option.mem_def,
      Option.some.injEq, forall_eq']
    constructor
    · rintro ⟨h, hw⟩
      exact ⟨h.trans (hj.mp hw).1, h, hw⟩
    · rintro ⟨_, h, hw⟩
      exact ⟨h, hw⟩

theorem Memory.head_write (i : Nat) (v : Nat) (m : Memory) :
    ∀ p ∈ (Memory.write i v m).head?, p.1 = i ∨ ∃ q ∈ m.head?, p.1 = q.1 := by
  cases m with
  | nil => simp [Memory.write]
  | cons q m =>
    obtain ⟨j, w⟩ := q
    unfold Memory.write
    split
    · simp
    · split <;> simp

/-- A write of an entry that exists keeps the canonical form. -/
theorem Memory.write_wf {i : Nat} (hi : i < 2 ^ Config.capIndexW) (v : Nat) (m : Memory)
    (hm : Memory.wf m = true) : Memory.wf (Memory.write i v m) = true := by
  induction m with
  | nil => simpa [Memory.write, Memory.wf] using hi
  | cons p m ih =>
    obtain ⟨j, w⟩ := p
    have h := (Memory.wf_cons j w m).mp hm
    unfold Memory.write
    split
    · next hlt => exact (Memory.wf_cons i v _).mpr ⟨hi, by simpa using hlt, hm⟩
    · split
      · next heq => subst heq; exact (Memory.wf_cons i v m).mpr ⟨hi, h.2.1, h.2.2⟩
      · next hlt hne =>
        refine (Memory.wf_cons j w _).mpr ⟨h.1, fun p hp => ?_, ih h.2.2⟩
        rcases Memory.head_write i v m p hp with rfl | ⟨q, hq, hpq⟩
        · omega
        · exact hpq ▸ h.2.1 q hq

/-- What a write can put into the memory: the entry written, and entries that stood there. -/
theorem Memory.mem_write {i : Nat} {v : Nat} {m : Memory} {p : Nat × Nat} (h : p ∈ Memory.write i v m) :
    p = (i, v) ∨ p ∈ m := by
  induction m with
  | nil => simpa [Memory.write] using h
  | cons q m ih =>
    obtain ⟨j, w⟩ := q
    unfold Memory.write at h
    split at h
    · simpa using h
    · split at h
      · rcases List.mem_cons.mp h with h | h <;> simp [h]
      · rcases List.mem_cons.mp h with h | h
        · simp [h]
        · rcases ih h with h | h <;> simp [h]

theorem storeCap_wf (i : Count) (v : Nat) (s : State) (h : Memory.wf s.cap = true) :
    Memory.wf (storeCap i v s).cap = true :=
  Memory.write_wf i.isLt (lowBits s.params.durW v) s.cap h

theorem resetMdec_wf (s : State) (h : Memory.wf s.cap = true) : Memory.wf (resetMdec s).cap = true := h

theorem reset_wf : Memory.wf State.reset.cap = true := rfl

end Sys2Proof.Machine
end

