-- ==== Sys2Proof/Laws/PerInstr.lean ====
section
/-! SUPPORT. Sys2Proof/Laws/PerInstr.lean: the family TableRow: the encoder's word lies in the row that
spec/opcode_table.json gives the instruction (format, match and mask transcribed from the table). -/

namespace Sys2Proof.Laws.TableRow

/-- A row of spec/opcode_table.json: its format's width, match and mask. -/
structure Row where
  width : Nat
  rowMatch : Nat
  rowMask : Nat

/-- The row of each instruction, transcribed from spec/opcode_table.json; CAPW has no word (R80). -/
def row (i : Instr) : Row :=
  match i with
  | .rdCmd _ => ⟨9, 0x0, 0x1FC⟩
  | .rdStatus _ => ⟨9, 0x4, 0x1FC⟩
  | .rdConfig _ => ⟨9, 0x8, 0x1FC⟩
  | .rdRawlen _ => ⟨9, 0xC, 0x1FC⟩
  | .rdUnit _ => ⟨9, 0x10, 0x1FC⟩
  | .rdTol _ => ⟨9, 0x14, 0x1FC⟩
  | .rdRawval _ => ⟨9, 0x18, 0x1FC⟩
  | .rdAddr _ => ⟨9, 0x1C, 0x1FC⟩
  | .rdCommand _ => ⟨9, 0x20, 0x1FC⟩
  | .rdRepeat _ => ⟨9, 0x24, 0x1FC⟩
  | .rdBitcnt _ => ⟨9, 0x28, 0x1FC⟩
  | .rdProto _ => ⟨9, 0x2C, 0x1FC⟩
  | .rdDiag _ => ⟨9, 0x30, 0x1FC⟩
  | .wrCmd _ _ => ⟨9, 0x100, 0x1FC⟩
  | .wrConfig _ _ => ⟨9, 0x108, 0x1FC⟩
  | .wrRawlen _ _ => ⟨9, 0x10C, 0x1FC⟩
  | .wrUnit _ _ => ⟨9, 0x110, 0x1FC⟩
  | .wrTol _ _ => ⟨9, 0x114, 0x1FC⟩
  | .wrRoStatus _ _ => ⟨9, 0x104, 0x1FC⟩
  | .wrRoRawval _ _ => ⟨9, 0x118, 0x1FC⟩
  | .wrRoAddr _ _ => ⟨9, 0x11C, 0x1FC⟩
  | .wrRoCommand _ _ => ⟨9, 0x120, 0x1FC⟩
  | .wrRoRepeat _ _ => ⟨9, 0x124, 0x1FC⟩
  | .wrRoBitcnt _ _ => ⟨9, 0x128, 0x1FC⟩
  | .wrRoProto _ _ => ⟨9, 0x12C, 0x1FC⟩
  | .wrRoDiag _ _ => ⟨9, 0x130, 0x1FC⟩
  | .nop => ⟨8, 0x0, 0xFF⟩
  | .decode => ⟨8, 0x1, 0xFF⟩
  | .clear => ⟨8, 0x2, 0xFF⟩
  | .reserved03 => ⟨8, 0x3, 0xFF⟩
  | .reserved04 _ => ⟨8, 0x4, 0xFC⟩
  | .reserved08 _ => ⟨8, 0x8, 0xF8⟩
  | .reserved10 _ => ⟨8, 0x10, 0xF0⟩
  | .reserved20 _ => ⟨8, 0x20, 0xE0⟩
  | .reserved40 _ => ⟨8, 0x40, 0xC0⟩
  | .reserved80 _ => ⟨8, 0x80, 0x80⟩
  | .fsmIdle => ⟨3, 0x0, 0x7⟩
  | .fsmLenchk => ⟨3, 0x1, 0x7⟩
  | .fsmStart => ⟨3, 0x2, 0x7⟩
  | .fsmPairA => ⟨3, 0x3, 0x7⟩
  | .fsmPairB => ⟨3, 0x4, 0x7⟩
  | .pairBit0 => ⟨4, 0x1, 0xF⟩
  | .pairBit1 => ⟨4, 0x4, 0xF⟩
  | .pairBit1Tail => ⟨4, 0x7, 0xF⟩
  | .pairInvalidMM => ⟨4, 0x5, 0xF⟩
  | .pairInvalidSS => ⟨4, 0x0, 0xF⟩
  | .pairInvalidSTail => ⟨4, 0x3, 0xF⟩
  | .pairSamplerError _ => ⟨4, 0x2, 0x3⟩
  | .capw _ _ => ⟨0, 0x0, 0x0⟩

/-- The width of an encoded word and the word as a number (spec/30_encoding.md R80). -/
def wordOf : Encoded → Nat × Nat
  | .bus req _ => (9, req.toNat)
  | .cmd op => (8, op.toNat)
  | .fsm c => (3, c.toNat)
  | .pair w => (4, w.toNat)
  | .cap _ _ => (0, 0)

/-- The encoded word of a well-formed instruction has its row's width and fixed bits. -/
def Statement (i : Instr) : Prop :=
  wellFormed i = true →
    (wordOf (encode i)).1 = (row i).width ∧ (wordOf (encode i)).2 &&& (row i).rowMask = (row i).rowMatch

theorem busRow (write : Bool) (r : Reg) (lo : BitVec 2) :
    (busWord write r lo).toNat &&& 0x1FC = (busWord write r 0).toNat := by
  revert lo
  cases write <;> cases r <;> decide

theorem rdCmd (lo : BitVec 2) : Statement (.rdCmd lo) :=
  fun _ => ⟨rfl, busRow false .cmd lo⟩

theorem rdStatus (lo : BitVec 2) : Statement (.rdStatus lo) :=
  fun _ => ⟨rfl, busRow false .status lo⟩

theorem rdConfig (lo : BitVec 2) : Statement (.rdConfig lo) :=
  fun _ => ⟨rfl, busRow false .config lo⟩

theorem rdRawlen (lo : BitVec 2) : Statement (.rdRawlen lo) :=
  fun _ => ⟨rfl, busRow false .rawlen lo⟩

theorem rdUnit (lo : BitVec 2) : Statement (.rdUnit lo) :=
  fun _ => ⟨rfl, busRow false .unit lo⟩

theorem rdTol (lo : BitVec 2) : Statement (.rdTol lo) :=
  fun _ => ⟨rfl, busRow false .tol lo⟩

theorem rdRawval (lo : BitVec 2) : Statement (.rdRawval lo) :=
  fun _ => ⟨rfl, busRow false .rawval lo⟩

theorem rdAddr (lo : BitVec 2) : Statement (.rdAddr lo) :=
  fun _ => ⟨rfl, busRow false .addr lo⟩

theorem rdCommand (lo : BitVec 2) : Statement (.rdCommand lo) :=
  fun _ => ⟨rfl, busRow false .command lo⟩

theorem rdRepeat (lo : BitVec 2) : Statement (.rdRepeat lo) :=
  fun _ => ⟨rfl, busRow false .rpt lo⟩

theorem rdBitcnt (lo : BitVec 2) : Statement (.rdBitcnt lo) :=
  fun _ => ⟨rfl, busRow false .bitcnt lo⟩

theorem rdProto (lo : BitVec 2) : Statement (.rdProto lo) :=
  fun _ => ⟨rfl, busRow false .proto lo⟩

theorem rdDiag (lo : BitVec 2) : Statement (.rdDiag lo) :=
  fun _ => ⟨rfl, busRow false .diag lo⟩

theorem wrCmd (lo : BitVec 2) (wdata : Word) : Statement (.wrCmd lo wdata) :=
  fun _ => ⟨rfl, busRow true .cmd lo⟩

theorem wrConfig (lo : BitVec 2) (wdata : Word) : Statement (.wrConfig lo wdata) :=
  fun _ => ⟨rfl, busRow true .config lo⟩

theorem wrRawlen (lo : BitVec 2) (wdata : Word) : Statement (.wrRawlen lo wdata) :=
  fun _ => ⟨rfl, busRow true .rawlen lo⟩

theorem wrUnit (lo : BitVec 2) (wdata : Word) : Statement (.wrUnit lo wdata) :=
  fun _ => ⟨rfl, busRow true .unit lo⟩

theorem wrTol (lo : BitVec 2) (wdata : Word) : Statement (.wrTol lo wdata) :=
  fun _ => ⟨rfl, busRow true .tol lo⟩

theorem wrRoStatus (lo : BitVec 2) (wdata : Word) : Statement (.wrRoStatus lo wdata) :=
  fun _ => ⟨rfl, busRow true .status lo⟩

theorem wrRoRawval (lo : BitVec 2) (wdata : Word) : Statement (.wrRoRawval lo wdata) :=
  fun _ => ⟨rfl, busRow true .rawval lo⟩

theorem wrRoAddr (lo : BitVec 2) (wdata : Word) : Statement (.wrRoAddr lo wdata) :=
  fun _ => ⟨rfl, busRow true .addr lo⟩

theorem wrRoCommand (lo : BitVec 2) (wdata : Word) : Statement (.wrRoCommand lo wdata) :=
  fun _ => ⟨rfl, busRow true .command lo⟩

theorem wrRoRepeat (lo : BitVec 2) (wdata : Word) : Statement (.wrRoRepeat lo wdata) :=
  fun _ => ⟨rfl, busRow true .rpt lo⟩

theorem wrRoBitcnt (lo : BitVec 2) (wdata : Word) : Statement (.wrRoBitcnt lo wdata) :=
  fun _ => ⟨rfl, busRow true .bitcnt lo⟩

theorem wrRoProto (lo : BitVec 2) (wdata : Word) : Statement (.wrRoProto lo wdata) :=
  fun _ => ⟨rfl, busRow true .proto lo⟩

theorem wrRoDiag (lo : BitVec 2) (wdata : Word) : Statement (.wrRoDiag lo wdata) :=
  fun _ => ⟨rfl, busRow true .diag lo⟩

theorem nop : Statement (.nop) :=
  fun _ => ⟨rfl, rfl⟩

theorem decode : Statement (.decode) :=
  fun _ => ⟨rfl, rfl⟩

theorem clear : Statement (.clear) :=
  fun _ => ⟨rfl, rfl⟩

theorem reserved03 : Statement (.reserved03) :=
  fun _ => ⟨rfl, rfl⟩

theorem reserved04 (op : BitVec 8) : Statement (.reserved04 op) := by
  revert op
  unfold Statement
  decide

theorem reserved08 (op : BitVec 8) : Statement (.reserved08 op) := by
  revert op
  unfold Statement
  decide

theorem reserved10 (op : BitVec 8) : Statement (.reserved10 op) := by
  revert op
  unfold Statement
  decide

theorem reserved20 (op : BitVec 8) : Statement (.reserved20 op) := by
  revert op
  unfold Statement
  decide

theorem reserved40 (op : BitVec 8) : Statement (.reserved40 op) := by
  revert op
  unfold Statement
  decide

theorem reserved80 (op : BitVec 8) : Statement (.reserved80 op) := by
  revert op
  unfold Statement
  decide

theorem fsmIdle : Statement (.fsmIdle) :=
  fun _ => ⟨rfl, rfl⟩

theorem fsmLenchk : Statement (.fsmLenchk) :=
  fun _ => ⟨rfl, rfl⟩

theorem fsmStart : Statement (.fsmStart) :=
  fun _ => ⟨rfl, rfl⟩

theorem fsmPairA : Statement (.fsmPairA) :=
  fun _ => ⟨rfl, rfl⟩

theorem fsmPairB : Statement (.fsmPairB) :=
  fun _ => ⟨rfl, rfl⟩

theorem pairBit0 : Statement (.pairBit0) :=
  fun _ => ⟨rfl, rfl⟩

theorem pairBit1 : Statement (.pairBit1) :=
  fun _ => ⟨rfl, rfl⟩

theorem pairBit1Tail : Statement (.pairBit1Tail) :=
  fun _ => ⟨rfl, rfl⟩

theorem pairInvalidMM : Statement (.pairInvalidMM) :=
  fun _ => ⟨rfl, rfl⟩

theorem pairInvalidSS : Statement (.pairInvalidSS) :=
  fun _ => ⟨rfl, rfl⟩

theorem pairInvalidSTail : Statement (.pairInvalidSTail) :=
  fun _ => ⟨rfl, rfl⟩

theorem pairSamplerError (a : BitVec 2) : Statement (.pairSamplerError a) := by
  revert a
  unfold Statement
  decide

theorem capw (index : Count) (value : Nat) : Statement (.capw index value) :=
  fun _ => ⟨rfl, Nat.and_zero 0⟩

end Sys2Proof.Laws.TableRow
end

