-- ==== Sys2Proof/Laws/Step.lean ====
section
/-! SUPPORT. Sys2Proof/Laws/Step.lean: what a step can do, said once. -/

namespace Sys2Proof.Machine

theorem step_nil {s : State} (h : s.inbox = []) : step s = engineTurn s := by
  simp [step, runNext, h]

theorem step_cons {s : State} {t : Turn} {rest : List Turn} (h : s.inbox = t :: rest) :
    step s = runTurn t (dropTurn s) := by
  simp [step, runNext, h]

/-- The engine's turn, by the engine's state (R140). -/
theorem engineTurn_eq (s : State) :
    engineTurn s = .next (match s.fsm with
      | .idle => s
      | .lenchk => lenchkStep s
      | .start => startStep (sample s).1 (sample s).2
      | .pairA => pairAStep s
      | .pairB => secondHalf (sample s).1 (sample s).2) := by
  unfold engineTurn
  cases s.fsm <;> rfl

/-- What a bus transaction can do: read a register or an unmapped offset, run a command, store an input register or drop
the write, or nothing. -/
theorem busTurn_cases (req : BitVec 9) (d : Word) (s : State) :
    (∃ r, busTurn req d s = .next (busRead r s)) ∨ busTurn req d s = .next (busReadUnmapped s) ∨
    busTurn req d s = .next s ∨ busTurn req d s = .next (runCommand (byteField d) s) ∨
    (∃ r ∈ [Reg.config, .rawlen, .unit, .tol], busTurn req d s = exec (writeInstr r (req.extractLsb' 0 2) d) s) := by
  unfold busTurn
  simp only [decode, decodeBus]
  cases h : regOfIndex (req.extractLsb' 2 6) with
  | none =>
    cases hw : req.getLsbD 8
    · exact .inr (.inl (by simp))
    · exact .inr (.inr (.inl (by simp)))
  | some r =>
    cases hw : req.getLsbD 8
    · exact .inl ⟨r, by cases r <;> rfl⟩
    · cases r
      case cmd => exact .inr (.inr (.inr (.inl rfl)))
      case config => exact .inr (.inr (.inr (.inr ⟨.config, by simp, rfl⟩)))
      case rawlen => exact .inr (.inr (.inr (.inr ⟨.rawlen, by simp, rfl⟩)))
      case unit => exact .inr (.inr (.inr (.inr ⟨.unit, by simp, rfl⟩)))
      case tol => exact .inr (.inr (.inr (.inr ⟨.tol, by simp, rfl⟩)))
      all_goals exact .inr (.inr (.inl rfl))

end Sys2Proof.Machine
end

