-- ==== Sys2Proof/Tests/Slice0.lean ====
section
/-! SUPPORT. Sys2Proof/Tests/Slice0.lean: the model's own tests. Expected results come from spec/95_test_vectors.md (the
vector is named) or from the rule named; no test rests on a free value. -/

namespace Sys2Proof.Machine.Tests

/-! ### Well-formedness: an ill-formed term for each check -/

theorem test_wf_reserved04 : wellFormed (.reserved04 0x08) = false := by decide
theorem test_wf_reserved08 : wellFormed (.reserved08 0x07) = false := by decide
theorem test_wf_reserved10 : wellFormed (.reserved10 0x20) = false := by decide
theorem test_wf_reserved20 : wellFormed (.reserved20 0x1F) = false := by decide
theorem test_wf_reserved40 : wellFormed (.reserved40 0x80) = false := by decide
theorem test_wf_reserved80 : wellFormed (.reserved80 0x7F) = false := by decide
theorem test_wf_pair_first_sample : wellFormed (.pairSamplerError 2) = false := by decide

/-! ### Decoding: a word of each row, written out from the tables of spec/30_encoding.md -/

theorem test_decode_rdCmd : decode (.bus 0b000000001 0) = .instr (.rdCmd 0b01) := by decide
theorem test_decode_rdStatus : decode (.bus 0b000000101 0) = .instr (.rdStatus 0b01) := by decide
theorem test_decode_rdConfig : decode (.bus 0b000001001 0) = .instr (.rdConfig 0b01) := by decide
theorem test_decode_rdRawlen : decode (.bus 0b000001101 0) = .instr (.rdRawlen 0b01) := by decide
theorem test_decode_rdUnit : decode (.bus 0b000010001 0) = .instr (.rdUnit 0b01) := by decide
theorem test_decode_rdTol : decode (.bus 0b000010101 0) = .instr (.rdTol 0b01) := by decide
theorem test_decode_rdRawval : decode (.bus 0b000011001 0) = .instr (.rdRawval 0b01) := by decide
theorem test_decode_rdAddr : decode (.bus 0b000011101 0) = .instr (.rdAddr 0b01) := by decide
theorem test_decode_rdCommand : decode (.bus 0b000100001 0) = .instr (.rdCommand 0b01) := by decide
theorem test_decode_rdRepeat : decode (.bus 0b000100101 0) = .instr (.rdRepeat 0b01) := by decide
theorem test_decode_rdBitcnt : decode (.bus 0b000101001 0) = .instr (.rdBitcnt 0b01) := by decide
theorem test_decode_rdProto : decode (.bus 0b000101101 0) = .instr (.rdProto 0b01) := by decide
theorem test_decode_rdDiag : decode (.bus 0b000110001 0) = .instr (.rdDiag 0b01) := by decide
theorem test_decode_wrCmd : decode (.bus 0b100000001 0xA5A5A5A5) = .instr (.wrCmd 0b01 0xA5A5A5A5) := by decide
theorem test_decode_wrConfig : decode (.bus 0b100001001 0xA5A5A5A5) = .instr (.wrConfig 0b01 0xA5A5A5A5) := by decide
theorem test_decode_wrRawlen : decode (.bus 0b100001101 0xA5A5A5A5) = .instr (.wrRawlen 0b01 0xA5A5A5A5) := by decide
theorem test_decode_wrUnit : decode (.bus 0b100010001 0xA5A5A5A5) = .instr (.wrUnit 0b01 0xA5A5A5A5) := by decide
theorem test_decode_wrTol : decode (.bus 0b100010101 0xA5A5A5A5) = .instr (.wrTol 0b01 0xA5A5A5A5) := by decide
theorem test_decode_wrRoStatus : decode (.bus 0b100000101 0xA5A5A5A5) = .instr (.wrRoStatus 0b01 0xA5A5A5A5) := by decide
theorem test_decode_wrRoRawval : decode (.bus 0b100011001 0xA5A5A5A5) = .instr (.wrRoRawval 0b01 0xA5A5A5A5) := by decide
theorem test_decode_wrRoAddr : decode (.bus 0b100011101 0xA5A5A5A5) = .instr (.wrRoAddr 0b01 0xA5A5A5A5) := by decide
theorem test_decode_wrRoCommand : decode (.bus 0b100100001 0xA5A5A5A5) = .instr (.wrRoCommand 0b01 0xA5A5A5A5) := by decide
theorem test_decode_wrRoRepeat : decode (.bus 0b100100101 0xA5A5A5A5) = .instr (.wrRoRepeat 0b01 0xA5A5A5A5) := by decide
theorem test_decode_wrRoBitcnt : decode (.bus 0b100101001 0xA5A5A5A5) = .instr (.wrRoBitcnt 0b01 0xA5A5A5A5) := by decide
theorem test_decode_wrRoProto : decode (.bus 0b100101101 0xA5A5A5A5) = .instr (.wrRoProto 0b01 0xA5A5A5A5) := by decide
theorem test_decode_wrRoDiag : decode (.bus 0b100110001 0xA5A5A5A5) = .instr (.wrRoDiag 0b01 0xA5A5A5A5) := by decide
theorem test_decode_nop : decode (.cmd 0b00000000) = .instr (.nop) := by decide
theorem test_decode_decode : decode (.cmd 0b00000001) = .instr (.decode) := by decide
theorem test_decode_clear : decode (.cmd 0b00000010) = .instr (.clear) := by decide
theorem test_decode_reserved03 : decode (.cmd 0b00000011) = .instr (.reserved03) := by decide
theorem test_decode_reserved04 : decode (.cmd 0b00000111) = .instr (.reserved04 0b00000111) := by decide
theorem test_decode_reserved08 : decode (.cmd 0b00001111) = .instr (.reserved08 0b00001111) := by decide
theorem test_decode_reserved10 : decode (.cmd 0b00011111) = .instr (.reserved10 0b00011111) := by decide
theorem test_decode_reserved20 : decode (.cmd 0b00111111) = .instr (.reserved20 0b00111111) := by decide
theorem test_decode_reserved40 : decode (.cmd 0b01111111) = .instr (.reserved40 0b01111111) := by decide
theorem test_decode_reserved80 : decode (.cmd 0b11111111) = .instr (.reserved80 0b11111111) := by decide
theorem test_decode_fsmIdle : decode (.fsm 0b000) = .instr .fsmIdle := by decide
theorem test_decode_fsmLenchk : decode (.fsm 0b001) = .instr .fsmLenchk := by decide
theorem test_decode_fsmStart : decode (.fsm 0b010) = .instr .fsmStart := by decide
theorem test_decode_fsmPairA : decode (.fsm 0b011) = .instr .fsmPairA := by decide
theorem test_decode_fsmPairB : decode (.fsm 0b100) = .instr .fsmPairB := by decide
theorem test_decode_pairBit0 : decode (.pair 0b0001) = .instr .pairBit0 := by decide
theorem test_decode_pairBit1 : decode (.pair 0b0100) = .instr .pairBit1 := by decide
theorem test_decode_pairBit1Tail : decode (.pair 0b0111) = .instr .pairBit1Tail := by decide
theorem test_decode_pairInvalidMM : decode (.pair 0b0101) = .instr .pairInvalidMM := by decide
theorem test_decode_pairInvalidSS : decode (.pair 0b0000) = .instr .pairInvalidSS := by decide
theorem test_decode_pairInvalidSTail : decode (.pair 0b0011) = .instr .pairInvalidSTail := by decide
theorem test_decode_pairSamplerError : decode (.pair 0b0110) = .instr (.pairSamplerError 0b01) := by decide
theorem test_decode_capw : decode (.cap 7 500) = .instr (.capw 7 500) := by decide

/-- R63, R90, R88: what selects no row is named. -/
theorem test_decode_no_row :
    decode (.bus 0b000110100 0) = .noRow .unmappedRead ∧ decode (.bus 0b111111111 0) = .noRow .unmappedWrite ∧
    decode (.fsm 0b101) = .noRow .unusedFsmCode ∧ decode (.pair 0b1001) = .noRow .firstSampleNoLevel := by decide

/-! ### States the tests start from -/

/-- Idle, with T = 500, E = 125, DIAG_EN = 1 (the defaults of spec/95_test_vectors.md) and L = 36. -/
def base : State :=
  { State.reset with unit := 500, tol := 125, diagEn := true, rawlen := 36 }

/-- `base` at engine state `f` with entry `i` holding `v` and the cursor at its start. -/
def at' (f : Fsm) (i : Count) (v : Nat) : State :=
  { base with fsm := f, off := i, cap := [(i.toNat, v)] }

/-- A finished decode: SUCCESS with RAWVAL 0x00ABCD (vector DF-1). -/
def finished : State :=
  { base with done := true, result := .success, rawval := 0xABCD, diagPos := 36, diagNbits := 23 }

/-! ### Register reads -/

theorem test_rd_status : readWord .status { finished with cmderr := true } = 0x16 := by decide
theorem test_rd_status_rejected : readWord .status { base with done := true, result := .rejected } = 0x0A := by decide
theorem test_rd_config : readWord .config { base with lcm := .permissive, ie := true } = 0x07 := by decide
theorem test_rd_views : readWord .addr finished = 0x55 ∧ readWord .rpt finished = 1 ∧
    readWord .command finished = 0xCD ∧ readWord .bitcnt finished = 0x17 := by decide
theorem test_rd_views_fv7 : readWord .addr { base with rawval := 0x2AAAAA } = 0x1555 ∧
    readWord .rpt { base with rawval := 0x2AAAAA } = 0 ∧ readWord .command { base with rawval := 0x2AAAAA } = 0xAA := by
  decide
theorem test_rd_diag : readWord .diag finished = 0x00172400 := by decide
theorem test_rd_diag_sampler :
    readWord .diag { base with diagReason := .sampler, diagPos := 10, diagNbits := 4 } = 0x00040A03 := by decide
theorem test_rd_command_on_the_bus : exec (.rdCommand 3) finished = .next { finished with rdata := 0xCD } := rfl

/-! ### Register writes and commands (section 11) -/

theorem test_wr_config_cv13 : exec (.wrConfig 0 0xFFFFFFFF) base =
    .next { base with lcm := .permissive, diagEn := true, ie := true } := rfl
theorem test_wr_rawlen_cv11 : exec (.wrRawlen 0 0x131) base = .next { base with rawlen := 0x31 } := rfl
theorem test_wr_tol_cv12 : exec (.wrTol 0 0x1007D) base = .next { base with tol := 0x7D } := rfl
/-- R107, R108 with `DUR_W` = 8 and 32: the data bits at and above `DUR_W` are ignored. -/
theorem test_wr_tol_narrow : exec (.wrTol 0 0x1017D) { base with params := ⟨8, 2⟩ } =
    .next { base with params := ⟨8, 2⟩, tol := 0x7D } := rfl
theorem test_wr_unit_wide : exec (.wrUnit 0 0xFFFFFFFF) { base with params := ⟨32, 2⟩ } =
    .next { base with params := ⟨32, 2⟩, unit := 0xFFFFFFFF } := rfl
theorem test_wr_unit_cv6 : exec (.wrUnit 0 600) { base with fsm := .start } =
    .next { base with fsm := .start, cmderr := true } := rfl
theorem test_wr_ro_status_cv8 : exec (.wrRoStatus 0 0xFFFFFFFF) finished = .next finished := rfl
theorem test_wr_cmd_cv1 : exec (.wrCmd 0 0x80) State.reset = .next { State.reset with cmderr := true } := rfl
theorem test_wr_cmd_cv2 : exec (.wrCmd 0 0xFFFFFF00) State.reset = .next State.reset := rfl
theorem test_nop_cv3 : exec .nop { base with fsm := .pairA } = .next { base with fsm := .pairA } := rfl
theorem test_decode_cv4 : exec .decode { base with fsm := .pairA } = .next { base with fsm := .pairA, cmderr := true } :=
  rfl
theorem test_decode_cv16 : exec .decode { finished with cmderr := true } =
    .next { base with cmderr := true, fsm := .lenchk } := rfl
theorem test_clear_cv7 : exec .clear { finished with cmderr := true } = .next base := rfl
theorem test_clear_cv5 : exec .clear { base with fsm := .start } = .next { base with fsm := .start, cmderr := true } := rfl
theorem test_reserved_cv1 : exec (.reserved80 0x80) State.reset = .next { State.reset with cmderr := true } := rfl
theorem test_capw_width : exec (.capw 2 0x1FFFF) base = .next { base with cap := [(2, 0xFFFF)] } := rfl
theorem test_irq_cv14 : irq { base with done := true, ie := true } = true ∧ irq { base with done := true } = false := by
  decide

/-! ### The sampler (section 4) -/

theorem test_classify_sv1_to_sv12 :
    classify 2 500 125 500 = some 1 ∧ classify 2 500 125 375 = some 1 ∧ classify 2 500 125 625 = some 1 ∧
    classify 2 500 125 374 = none ∧ classify 2 500 125 626 = none ∧ classify 2 500 125 750 = none ∧
    classify 2 500 125 875 = some 2 ∧ classify 2 500 125 1125 = some 2 ∧ classify 2 500 125 1126 = none ∧
    classify 2 500 125 1500 = none ∧ classify 2 500 125 0 = none := by decide
theorem test_classify_sv13_to_sv23 :
    classify 2 500 300 800 = some 1 ∧ classify 2 500 300 801 = some 2 ∧ classify 2 500 300 199 = none ∧
    classify 2 500 0 1000 = some 2 ∧ classify 2 500 0 501 = none ∧ classify 2 0 0 0 = some 1 ∧ classify 2 0 0 1 = none ∧
    classify 2 65535 0 65535 = some 1 ∧ classify 2 500 600 0 = some 1 := by decide
/-- R122 with `MAX_UNITS` = 3 and 1: three units match where the parameter admits them, two do not where it does not. -/
theorem test_classify_max_units : classify 3 500 125 1500 = some 3 ∧ classify 1 500 125 1000 = none := by decide
theorem test_sample_sv30 : sample (at' .start 1 1000) = (.mark, { at' .start 1 1000 with used := 1, cur := 2 }) := by decide
theorem test_sample_sv31 : sample { at' .start 1 7 with used := 1, cur := 2 } = (.mark, { at' .start 1 7 with off := 2 }) := by
  decide
theorem test_sample_sv33 : sample (at' .pairA 2 500) = (.space, { at' .pairA 2 500 with off := 3 }) := by decide
theorem test_sample_sv34 : sample (at' .pairA 10 700) = (.error, at' .pairA 10 700) := by decide
theorem test_sample_sv35 : sample (at' .pairA 36 500) = (.exhausted, at' .pairA 36 500) := by decide

/-! ### The engine's steps (sections 6, 7 and 9) -/

theorem test_length_lv : lengthRejects 13 .strict = true ∧ lengthRejects 14 .strict = false ∧
    lengthRejects 48 .strict = false ∧ lengthRejects 49 .strict = true ∧ lengthRejects 0 .permissive = false ∧
    lengthRejects 255 .permissive = false := by decide
theorem test_lenchk_ev1 : exec .fsmLenchk { base with fsm := .lenchk, off := 9, cur := 2, used := 1 } =
    .next { base with fsm := .start, off := 1 } := rfl
theorem test_lenchk_ev2 : exec .fsmLenchk { base with fsm := .lenchk, rawlen := 13, off := 9 } =
    .next { base with rawlen := 13, off := 9, done := true, result := .rejected, diagReason := .length } := rfl
theorem test_start_ev5 : exec .fsmStart { at' .start 1 1000 with acc := 5, nb := 6 } =
    .next { at' .pairA 1 1000 with used := 1, cur := 2 } := rfl
theorem test_start_ev7 : exec .fsmStart { base with fsm := .start, rawlen := 1, off := 1 } =
    .next { base with rawlen := 1, off := 1, done := true, result := .malformed, diagReason := .start, diagPos := 1 } := rfl
/-- R172, R143: a failing START reports no bit of an earlier decode, and writes no `h.nb`. -/
theorem test_start_reports_its_own_bits : exec .fsmStart { base with fsm := .start, rawlen := 1, off := 1, nb := 23 } =
    .next { base with
      rawlen := 1, off := 1, nb := 23, done := true, result := .malformed, diagReason := .start, diagPos := 1 } := rfl
theorem test_pair_a_ev8 : exec .fsmPairA { base with fsm := .pairA, off := 36, nb := 23, acc := 0xABCD } =
    .next { finished with off := 36, nb := 23, acc := 0xABCD } := rfl
theorem test_pair_a_ev10 : exec .fsmPairA (at' .pairA 2 500) = .next { at' .pairB 2 500 with off := 3 } := rfl
theorem test_pair_b_ev11 : exec .fsmPairB (at' .pairB 3 500) = .next { at' .pairA 3 500 with off := 4, nb := 1 } := rfl
theorem test_pair_b_ev12 : exec .fsmPairB { base with fsm := .pairB, lvlA := .mark, off := 36, acc := 0x55E6, nb := 22 } =
    .next { base with fsm := .pairA, lvlA := .mark, off := 36, acc := 0xABCD, nb := 23 } := rfl
theorem test_pair_bit0_av4 : exec .pairBit0 { base with acc := 0x7FFFFF } =
    .next { base with acc := 0x7FFFFE, nb := 1, fsm := .pairA } := rfl
theorem test_pair_bit1_av3 : exec .pairBit1 { base with acc := 0x3FFFFF } =
    .next { base with acc := 0x7FFFFF, nb := 1, fsm := .pairA } := rfl
theorem test_pair_tail_pv5 : exec .pairBit1Tail { base with acc := 0x55E6 } =
    .next { base with acc := 0xABCD, nb := 1, fsm := .pairA } := rfl
theorem test_pair_invalid_pv3 : exec .pairInvalidMM { base with fsm := .pairB, nb := 1, off := 4 } =
    .next { base with nb := 1, off := 4, done := true, result := .malformed, diagReason := .pair, diagPos := 4,
                      diagNbits := 1 } := rfl
theorem test_pair_error_pv7 : exec (.pairSamplerError 1) { base with fsm := .pairB, off := 10, nb := 4, diagEn := false } =
    .next { base with off := 10, nb := 4, done := true, result := .malformed, diagEn := false } := rfl
theorem test_capw : exec (.capw 2 9) { base with cap := [(1, 5), (3, 6)] } =
    .next { base with cap := [(1, 5), (2, 9), (3, 6)] } := rfl

/-! ### Steps -/

theorem test_step_reset_cv17 : step { finished with fsm := .pairA, ie := true, cap := [(1, 5)], inbox := [.reset, .engine] } =
    .next { State.reset with cap := [(1, 5)], inbox := [.engine] } := rfl
theorem test_step_unmapped_cv9 : step { base with rdata := 9, inbox := [.bus 0b001000000 0] } = .next base := rfl
theorem test_step_low_bits_cv10 : step { base with inbox := [.bus 0b100001110 5] } = .next { base with rawlen := 5 } := rfl
theorem test_step_narrow : step { base with inbox := [.narrow 4 1] } = .refused .narrowAccess := rfl
theorem test_step_idle_ev16 : step finished = .next finished := rfl
theorem test_fetch_wr_config : step (State.reset.withFetchWord 16 0x108) = .next State.reset := rfl
theorem test_fetch_decode : step (State.reset.withFetchWord 8 0x01) = .next { State.reset with fsm := .lenchk } := rfl
theorem test_lanes : laneByte 0x11223344 0 = 0x44 ∧ laneByte 0x11223344 3 = 0x11 ∧
    wordOfLanes 0x44 0x33 0x22 0x11 = 0x11223344 := by decide

/-! ### Witnesses: each theorem meets all hypotheses of the statement it names -/

/-- ResetClearsEverythingButCapture. -/
theorem witness_reset_pending : { finished with inbox := [.reset, .engine] }.inbox = .reset :: [.engine] := rfl

/-- StepRunsTheDecodedInstruction, a clause each. -/
theorem witness_step_bus : decode (.bus 0b100001000 6) = .instr (.wrConfig 0 6) ∧
    { base with inbox := [.bus 0b100001000 6] }.inbox = .bus 0b100001000 6 :: [] := by decide
theorem witness_step_capw : decode (.cap 255 9) = .instr (.capw 255 9) ∧
    { base with inbox := [.capw 255 9] }.inbox = .capw 255 9 :: [] := by decide
theorem witness_step_engine : decode (.fsm (at' .pairB 3 500).fsm.code) = .instr .fsmPairB ∧
    { at' .pairB 3 500 with inbox := [.engine] }.inbox = .engine :: [] ∧ (at' .pairB 3 500).inbox = [] := by decide

/-- PlacedTableWordRunsNext, both clauses. -/
theorem witness_table_word : decodeTableWord 16 0x10C = some (.wrRawlen 0 0) ∧ decodeTableWord 4 4 = some .pairBit1 := by
  decide

/-- StepStopsOnlyAtNarrowAccess, both clauses. -/
theorem witness_no_narrow : (∀ req lane rest, base.inbox ≠ .narrow req lane :: rest) ∧
    { base with inbox := [.narrow 4 1] }.inbox = .narrow 4 1 :: [] :=
  ⟨fun _ _ _ h => (by cases h), rfl⟩

/-- DecodeOfEncodeGivesTheInstruction at the ends of a range. -/
theorem witness_well_formed : wellFormed (.reserved04 0x04) = true ∧ wellFormed (.reserved04 0x07) = true ∧
    wellFormed (.pairSamplerError 1) = true ∧ wellFormed (.wrTol 3 0xFFFFFFFF) = true := by decide

/-- EveryWordSelectsOneRow where its clauses meet. -/
theorem witness_word_boundaries : (0x133#9).toNat % 256 < 0x34 ∧ 0x34 ≤ (0x034#9).toNat % 256 ∧
    3 ≤ (0x03#8).toNat ∧ 5 ≤ (5#3).toNat ∧ 8 ≤ (0b1000#4).toNat := by decide

/-- OffsetLowBitsAreIgnored. -/
theorem witness_low_bits : (0x10F#9).toNat / 4 = (0x10C#9).toNat / 4 ∧
    { base with inbox := [.bus 0x10F 5] }.inbox = .bus 0x10F 5 :: [] := by decide

/-- UnmappedOffsetsReadZeroAndIgnoreWrites: the first and the last unmapped offset, a read and a write. -/
theorem witness_unmapped : 0x34 ≤ (0x034#9).toNat % 256 ∧ (0x034#9).toNat < 256 ∧ 0x34 ≤ (0x1FF#9).toNat % 256 ∧
    256 ≤ (0x1FF#9).toNat ∧ { base with inbox := [.bus 0x1FF 1] }.inbox = .bus 0x1FF 1 :: [] := by decide

/-- NoSuccessReadsAllResultsZero. -/
theorem witness_no_success : AllOrNothing base ∧ base.result ≠ .success := ⟨fun _ => rfl, by decide⟩

/-- The statements about a register write or a command while not BUSY, and while BUSY. -/
theorem witness_idle_and_busy : finished.fsm = .idle ∧ (at' .pairB 3 500).fsm ≠ .idle := by decide

/-- WriteToCmdRunsTheCommandOfItsLowByte. -/
theorem witness_command_byte : decode (.cmd (BitVec.ofNat 8 (0xFFFFFF02#32).toNat)) = .instr .clear := by decide

/-- CmderrIsSetAndClearedOnlyAsListed: a step that sets CMDERR, and one that clears it. -/
theorem witness_cmderr : step { at' .pairA 2 500 with inbox := [.bus 0b100010000 1] } =
      .next { at' .pairA 2 500 with cmderr := true } ∧
    step { finished with cmderr := true, inbox := [.bus 0b100000000 2] } = .next base := ⟨rfl, rfl⟩

/-- CaptureReadReturnsTheEntryOrADraw: a backed entry, one that is not, and one never written. -/
theorem witness_capture : exec (.capw 3 9) { base with unbacked := [5] } = .next { base with cap := [(3, 9)], unbacked := [5] } ∧
    3 ∉ { base with unbacked := [5] }.unbacked ∧ 5 ∈ { base with unbacked := [5] }.unbacked ∧
    Memory.lookup 4 { base with unbacked := [5] }.cap = none := ⟨rfl, by decide, by decide, rfl⟩

/-- CaptureWriteChangesOneEntry and StepKeepsCaptureForm. -/
theorem witness_capture_form : Memory.wf (at' .pairA 2 500).cap = true ∧
    step { at' .pairA 2 500 with inbox := [.capw 1 9] } = .next { at' .pairA 2 500 with cap := [(1, 9), (2, 500)] } :=
  ⟨by decide, rfl⟩

/-- OnlyTheCaptureAgentWritesCapture. -/
theorem witness_no_capw : step (at' .pairA 2 500) = .next { at' .pairB 2 500 with off := 3 } ∧
    (∀ k v rest, (at' .pairA 2 500).inbox ≠ .capw k v :: rest) := ⟨rfl, fun _ _ _ h => (by cases h)⟩

/-- ClassificationIsTheLeastMatch: a duration in both windows. -/
theorem witness_both_windows : |(800 : Int) - 500| ≤ 300 ∧ |(800 : Int) - 2 * 500| ≤ 300 := by decide

/-- SampleFollowsTheSamplerRule, a state for each clause: at the end, mid-entry, at the start of an entry, outside every
window. -/
theorem witness_sample_end : (at' .pairA 36 500).rawlen.toNat ≤ (at' .pairA 36 500).off.toNat := by decide
theorem witness_sample_mid : (at' .start 35 7).off.toNat < (at' .start 35 7).rawlen.toNat ∧
    { at' .start 35 7 with used := 1, cur := 2 }.cur ≠ 0 := by decide
theorem witness_sample_first : (at' .start 1 1000).cur = 0 ∧
    classifyEntry (at' .start 1 1000) (capRead 1 (at' .start 1 1000)).1 = some 2 ∧
    (capRead 1 (at' .start 1 1000)).2 = at' .start 1 1000 := by decide
theorem witness_sample_error : (at' .pairA 10 700).off.toNat < (at' .pairA 10 700).rawlen.toNat ∧
    (at' .pairA 10 700).cur = 0 ∧
    classifyEntry (at' .pairA 10 700) (capRead 10 (at' .pairA 10 700)).1 = none := by
  decide

/-- LengthCheckRejectsOrInitializes: both bounds, and both sides of them. -/
theorem witness_length : base.lcm = .strict ∧ (14 ≤ { base with rawlen := 14 }.rawlen.toNat ∧
    { base with rawlen := 48 }.rawlen.toNat ≤ 48) ∧ { base with rawlen := 13 }.rawlen.toNat < 14 ∧
    48 < { base with rawlen := 49 }.rawlen.toNat ∧ { base with lcm := .permissive }.lcm = .permissive := by decide

/-- StartConsumesTheStartMark: a MARK, and an ERROR. -/
theorem witness_start : sample (at' .start 1 500) = (.mark, { at' .start 1 500 with off := 2 }) ∧
    sample (at' .start 1 1600) = (.error, at' .start 1 1600) := by decide

/-- PairAEndsTheFrameOrLatches: the end of the frame, and each sample before it. -/
theorem witness_pair_a : (at' .pairA 36 5).rawlen.toNat ≤ (at' .pairA 36 5).off.toNat ∧
    (at' .pairA 35 500).off.toNat < (at' .pairA 35 500).rawlen.toNat ∧
    sample (at' .pairA 35 500) = (.mark, { at' .pairA 35 500 with off := 36 }) ∧
    sample (at' .pairA 2 500) = (.space, { at' .pairA 2 500 with off := 3 }) ∧
    sample (at' .pairA 2 700) = (.error, at' .pairA 2 700) := by decide

/-- PairBRunsTheRowOfItsPair, with the capture exhausted. -/
theorem witness_pair_b : sample { at' .pairB 36 5 with lvlA := .mark } = (.exhausted, { at' .pairB 36 5 with lvlA := .mark }) ∧
    decode (.pair (Level.mark.toSample.code ++ Sample.exhausted.code)) = .instr .pairBit1Tail := by decide

/-- InvalidPairsEndMalformed. -/
theorem witness_invalid_pair : Instr.pairSamplerError 1 ∈
    [.pairInvalidMM, .pairInvalidSS, .pairInvalidSTail, .pairSamplerError 1] := by decide

/-- StepKeepsResultsConsistent and StepKeepsCursorAndBitCountInBounds, and BusTransactionsLeaveARunningDecodeAlone: a
running decode two entries into its frame. -/
theorem witness_results_ok : ResultsOk (at' .pairA 2 500) := by
  refine ⟨fun _ => rfl, trivial, by decide, fun _ => ⟨rfl, rfl, rfl, rfl⟩⟩
theorem witness_engine_ok : EngineOk (at' .pairA 2 500) := by
  refine ⟨rfl, .inl ⟨rfl, rfl⟩, by decide, by decide, by decide, fun _ => by decide⟩
theorem witness_engine_ok_pair_b : EngineOk { at' .pairB 3 500 with nb := 1 } := by
  refine ⟨rfl, .inl ⟨rfl, rfl⟩, by decide, by decide, by decide⟩

/-- BitCountStaysBelowRawlen. -/
theorem witness_bit_count : { at' .lenchk 1 500 with nb := 9 }.fsm = .lenchk ∧ base.params.maxUnits ≤ 2 ∧
    stepN 2 { at' .lenchk 1 500 with nb := 9 } = .next { at' .pairA 1 500 with off := 2 } ∧
    step { at' .pairA 1 500 with off := 2, cap := [(1, 500), (2, 500)] } =
      .next { at' .pairB 1 500 with off := 3, cap := [(1, 500), (2, 500)] } := ⟨rfl, by decide, rfl, rfl⟩

/-- InputsAreFrozenWhileBusy, BusTransactionsLeaveARunningDecodeAlone. -/
theorem witness_frozen : (at' .pairA 2 500).fsm ≠ .idle ∧
    (∀ rest, { at' .pairA 2 500 with inbox := [.bus 0b100001100 7] }.inbox ≠ .reset :: rest) ∧
    step { at' .pairA 2 500 with inbox := [.bus 0b100001100 7] } = .next { at' .pairA 2 500 with cmderr := true } :=
  ⟨by decide, fun _ h => (by cases h), rfl⟩

/-- EngineStepsLeaveTheHostsRegisters: with nothing pending, and with the engine's turn first. -/
theorem witness_engine_turn : (at' .pairA 2 500).inbox = [] ∧
    step { at' .pairA 2 500 with inbox := [.engine, .reset] } = .next { at' .pairB 2 500 with off := 3, inbox := [.reset] } :=
  ⟨rfl, rfl⟩

/-- FinishedResultsStayUntilAcknowledged: the commands on both sides of DECODE and CLEAR, and what takes DONE away. -/
theorem witness_finished : finished.fsm = .idle ∧ finished.done = true ∧
    step { finished with inbox := [.bus 0b100000000 0] } = .next finished ∧
    step { finished with inbox := [.bus 0b100000000 3] } = .next { finished with cmderr := true } ∧
    (∀ req d rest, { finished with inbox := [.bus 0b100000000 3] }.inbox = .bus req d :: rest → req.toNat / 4 = 64 →
      d.toNat % 256 ≠ 1 ∧ d.toNat % 256 ≠ 2) := by
  refine ⟨rfl, rfl, rfl, rfl, fun req d rest h _ => ?_⟩
  cases h
  decide
theorem witness_acknowledged : step { finished with inbox := [.bus 0b100000000 1] } = .next { base with fsm := .lenchk } ∧
    step { finished with inbox := [.bus 0b100000000 2] } = .next base ∧
    step { finished with inbox := [.reset] } = .next State.reset := ⟨rfl, rfl, rfl⟩

/-- IrqFollowsDoneAndIe: a completion, IE set over a completion, and `irq` lowered by CLEAR. -/
theorem witness_irq : irq { base with fsm := .lenchk, rawlen := 13, ie := true } = false ∧
    (∃ t, step { base with fsm := .lenchk, rawlen := 13, ie := true } = .next t ∧ irq t = true) ∧
    irq finished = false ∧
    (∃ t, step { finished with inbox := [.bus 0b100001000 4] } = .next t ∧ irq t = true) ∧
    irq { finished with ie := true } = true ∧
    (∃ t, step { finished with ie := true, inbox := [.bus 0b100000000 2] } = .next t ∧ irq t = false) :=
  ⟨by decide, ⟨_, rfl, rfl⟩, by decide, ⟨_, rfl, rfl⟩, by decide, ⟨_, rfl, rfl⟩⟩

/-- SuccessNeedsExactly23Bits: a frame of 23 bits, and one of 24. -/
theorem witness_success : step { base with fsm := .pairA, off := 36, nb := 23, acc := 0xABCD } =
    .next { finished with off := 36, nb := 23, acc := 0xABCD } := rfl
theorem witness_bitcount : (at' .pairA 36 5).fsm = .pairA ∧ (at' .pairA 36 5).inbox = [] ∧
    (at' .pairA 36 5).rawlen.toNat ≤ (at' .pairA 36 5).off.toNat ∧ { at' .pairA 36 5 with nb := 24 }.nb.toNat ≠ 23 := by
  decide

/-- The statements about whole decodes: a decode about to start. -/
theorem witness_decode : { base with fsm := .lenchk }.fsm = .lenchk ∧ { base with fsm := .lenchk }.inbox = [] ∧
    base.params.maxUnits ≤ 2 := ⟨rfl, rfl, by decide⟩

/-- DecodeReadsEachEntryAtMostOnce: the first and the last entry of the frame unbacked, and the entry past it. -/
theorem witness_unbacked : { base with fsm := .lenchk, unbacked := [1] }.unbacked = [1] ∧
    1 < base.rawlen.toNat ∧ 35 < base.rawlen.toNat ∧ ¬36 < base.rawlen.toNat := by decide

/-- StepKeepsDurationsWithinTheirWidth, at the widest duration of the reference configuration. -/
theorem witness_durations_fit : DurationsFit { at' .pairA 2 65535 with tol := 65535 } := by
  unfold DurationsFit
  decide

/-- C-555555 (section 2): 23 entries of two units. -/
def c555555 : State :=
  { base with
    rawlen := 24
    cap := (List.range 23).map (fun i => (i + 1, 1000)) }

/-- EncodedFrameDecodesToItsValue, at vector DF-4. -/
theorem witness_encoded_frame : c555555.fsm = .idle ∧ c555555.inbox = [] ∧ 2 ≤ c555555.params.maxUnits ∧ 0 < c555555.unit.toNat ∧
    c555555.tol.toNat < c555555.unit.toNat ∧ HoldsCapture c555555 (dropFinalSpace (frameLevels 0x555555)) := by
  refine ⟨rfl, rfl, by decide, by decide, by decide, ?_⟩
  unfold HoldsCapture
  decide

/-- SuccessTakesExactly49Steps, at vector DF-4: the 48 steps before the last are still BUSY. -/
theorem witness_49_steps :
    (match stepN 48 (startDecode c555555) with
      | .next t => decide (t.fsm = .pairA ∧ t.nb = 23)
      | .fault _ => false
      | .refused _ => false) = true := by decide

/-- DecodeDependsOnlyOnItsInputs: two states that differ in entry 0, in entries past the frame and in hidden state. -/
theorem witness_same_inputs : SameInputs { base with rawlen := 3, cap := [(1, 500), (2, 500)] }
    { base with rawlen := 3, off := 9, acc := 77, nb := 23, cap := [(0, 7), (1, 500), (2, 500), (9, 1)] } := by
  unfold SameInputs
  decide

/-- CorruptedPairIsCaught: the first pair of 0x7FFFFF made MARK-MARK, so that the start mark's level lasts three units and
the second pair's first level a fourth. -/
def corrupt7FFFFF : State :=
  { base with
    rawlen := 44
    cap := (1, 2000) :: (List.range 42).map (fun i => (i + 2, 500)) }

theorem witness_corrupt_pair : corrupt7FFFFF.fsm = .idle ∧ corrupt7FFFFF.inbox = [] ∧
    2 ≤ corrupt7FFFFF.params.maxUnits ∧ 0 < corrupt7FFFFF.unit.toNat ∧
    corrupt7FFFFF.tol.toNat < corrupt7FFFFF.unit.toNat ∧
    HoldsCapture corrupt7FFFFF (dropFinalSpace (corruptLevels 0x7FFFFF 0 .mark)) := by
  refine ⟨rfl, rfl, by decide, by decide, by decide, ?_⟩
  unfold HoldsCapture
  decide

/-- CorruptedPairIsCaught, at the last pair: pair 22 of 0x7FFFFF made MARK-MARK. -/
def corruptLast : State :=
  { base with
    rawlen := 46
    cap := (1, 1000) :: (List.range 43).map (fun i => (i + 2, 500)) ++ [(45, 1000)] }

theorem witness_corrupt_last_pair : (22 < 23) ∧
    HoldsCapture corruptLast (dropFinalSpace (corruptLevels 0x7FFFFF 22 .mark)) := by
  refine ⟨by decide, ?_⟩
  unfold HoldsCapture
  decide

end Sys2Proof.Machine.Tests
end

section
/-! Proofs: what the read-only views of a finished decode return (spec/10_state.md R28 to R33). -/

namespace Sys2Proof.Machine

/-- A read row is the bus read of its register (R100). -/
theorem exec_readInstr (r : Reg) (lo : BitVec 2) (s : State) :
    exec (readInstr r lo) s = .next { s with rdata := readWord r s } := by
  cases r <;> rfl

/-- A field of at most 32 bits placed at bit 0 keeps its value, with zeros above it (R84). -/
theorem place_zero_toNat {n : Nat} (hn : n ≤ 32) (v : BitVec n) : (place 0 v).toNat = v.toNat := by
  simp [place, BitVec.toNat_setWidth_of_le hn]

theorem addressOf_toNat (raw : Raw) : (addressOf raw).toNat = raw.toNat / 2 ^ 9 := by
  have hraw : raw.toNat < 2 ^ 23 := raw.isLt
  have hmask : Config.addrMask = 2 ^ 14 - 1 := by decide
  have hshift : Config.addrShift = 9 := by decide
  simp only [addressOf, hmask, hshift, BitVec.toNat_setWidth, BitVec.toNat_and, BitVec.toNat_ushiftRight,
    BitVec.toNat_ofNat, Nat.shiftRight_eq_div_pow]
  rw [show (2 ^ 14 - 1) % 2 ^ 23 = 2 ^ 14 - 1 by decide, Nat.and_two_pow_sub_one_eq_mod]
  omega

theorem commandOf_toNat (raw : Raw) : (commandOf raw).toNat = raw.toNat % 2 ^ 8 := by
  have hmask : 2 ^ Config.cmdWidth - 1 = 2 ^ 8 - 1 := by decide
  simp only [commandOf, hmask, BitVec.toNat_setWidth, BitVec.toNat_and, BitVec.toNat_ofNat]
  rw [show (2 ^ 8 - 1) % 2 ^ 23 = 2 ^ 8 - 1 by decide, Nat.and_two_pow_sub_one_eq_mod, Nat.mod_mod]

theorem repeatOf_toNat (raw : Raw) : (repeatOf raw).toNat = raw.toNat / 2 ^ 8 % 2 := by
  have hbit : Config.repeatBit = 8 := by decide
  rw [repeatOf, hbit, BitVec.getLsbD, Nat.toNat_testBit]

theorem bitcntWord_toNat (s : State) : (bitcntWord s).toNat = if s.result = .success then 23 else 0 := by
  unfold bitcntWord
  split
  · decide
  · rfl

theorem protoWord_toNat (s : State) :
    (protoWord s).toNat = if s.result = .success then Config.protocolTag.toNat else 0 := by
  unfold protoWord
  split
  · exact place_zero_toNat (by decide) Config.protocolTag
  · rfl

/-- Settles O16: each row reads its register, whose word is the field of the value placed at bit 0. -/
theorem readResultRegistersReturnFieldsOfRawval : Obligations.ReadResultRegistersReturnFieldsOfRawval := by
  intro lo s
  refine ⟨⟨_, exec_readInstr .rawval lo s, ?_⟩, ⟨_, exec_readInstr .addr lo s, ?_⟩,
    ⟨_, exec_readInstr .command lo s, ?_⟩, ⟨_, exec_readInstr .rpt lo s, ?_⟩⟩ <;> simp only [readWord]
  · exact place_zero_toNat (by decide) s.rawval
  · rw [place_zero_toNat (by decide), addressOf_toNat]
  · rw [place_zero_toNat (by decide), commandOf_toNat]
  · rw [place_zero_toNat (by decide), BitVec.toNat_ofBool, repeatOf_toNat]

/-- Settles O17: each row reads its register, whose word is chosen by RESULT. -/
theorem readBitcntAndProtoFollowTheResult : Obligations.ReadBitcntAndProtoFollowTheResult := by
  intro lo s
  exact ⟨⟨_, exec_readInstr .bitcnt lo s, bitcntWord_toNat s⟩, ⟨_, exec_readInstr .proto lo s, protoWord_toNat s⟩⟩

end Sys2Proof.Machine
end

section
/-! Proofs: what a step can write, said once for the engine and once for the bus, and the two statements about the
address spaces that follow (spec/20_memory.md R63, R65). -/

namespace Sys2Proof.Machine

/-! ### The engine's turn -/

/-- What an engine step writes once its sample, if it takes one, is taken (R142 to R145, R154). -/
inductive EngineWrite (u : State) : State → Prop where
  | complete (r : Result) (q : Reason) : EngineWrite u (complete r q u)
  | initCursor : EngineWrite u (initCursor u)
  | initBits : EngineWrite u (initBits u)
  | latchLevel (a : Level) : EngineWrite u (latchLevel a u)
  | takeBit (b : Bool) : EngineWrite u (takeBit b u)

theorem engineWrite_lenchkStep (s : State) : EngineWrite s (lenchkStep s) := by
  rcases lenchkStep_cases s with ⟨_, h⟩ | ⟨_, h⟩ <;> rw [h]
  · exact .complete _ _
  · exact .initCursor

theorem engineWrite_startStep (b : Sample) (s : State) : EngineWrite s (startStep b s) := by
  cases b with
  | mark => exact .initBits
  | space | error | exhausted => exact .complete _ _

theorem engineWrite_finishFrame (s : State) : EngineWrite s (finishFrame s) := by
  rcases finishFrame_cases s with ⟨_, h⟩ | ⟨_, h⟩ <;> rw [h] <;> exact .complete _ _

theorem engineWrite_firstHalf (a : Sample) (s : State) : EngineWrite s (firstHalf a s) := by
  cases a with
  | space => exact .latchLevel .space
  | mark => exact .latchLevel .mark
  | error => exact .complete _ _
  | exhausted => exact engineWrite_finishFrame s

theorem engineWrite_applyPair (a b : Level) (s : State) : EngineWrite s (applyPair (pairDecode a b) s) := by
  rcases applyPair_cases a b s with ⟨_, h⟩ | ⟨_, h⟩ <;> rw [h]
  · exact .takeBit _
  · exact .complete _ _

theorem engineWrite_secondHalf (b : Sample) (s : State) : EngineWrite s (secondHalf b s) := by
  cases b with
  | mark => exact engineWrite_applyPair s.lvlA .mark s
  | space | exhausted => exact engineWrite_applyPair s.lvlA .space s
  | error => exact .complete _ _

/-- PAIR_A writes with no sample taken at the end of the frame, and after one sample before it (R144). -/
theorem engineWrite_pairAStep (s : State) : ∃ u, (u = s ∨ u = (sample s).2) ∧ EngineWrite u (pairAStep s) := by
  unfold pairAStep
  split
  · exact ⟨s, .inl rfl, engineWrite_finishFrame s⟩
  · exact ⟨_, .inr rfl, engineWrite_firstHalf _ _⟩

/-- The engine's turn changes nothing while IDLE, and otherwise makes one write after at most one sample (R140, R141). -/
theorem engineTurn_cases (s : State) :
    (s.fsm = .idle ∧ engineTurn s = .next s) ∨
    (s.fsm ≠ .idle ∧ ∃ u t, (u = s ∨ u = (sample s).2) ∧ EngineWrite u t ∧ engineTurn s = .next t) := by
  rw [engineTurn_eq]
  cases hf : s.fsm with
  | idle => exact .inl ⟨rfl, rfl⟩
  | lenchk => exact .inr ⟨by decide, s, _, .inl rfl, engineWrite_lenchkStep s, rfl⟩
  | start => exact .inr ⟨by decide, _, _, .inr rfl, engineWrite_startStep _ _, rfl⟩
  | pairA =>
    obtain ⟨u, hu, hw⟩ := engineWrite_pairAStep s
    exact .inr ⟨by decide, u, _, hu, hw, rfl⟩
  | pairB => exact .inr ⟨by decide, _, _, .inr rfl, engineWrite_secondHalf _ _, rfl⟩

theorem EngineWrite.cap_eq {u t : State} (h : EngineWrite u t) : t.cap = u.cap := by
  cases h <;> simp

theorem engineTurn_cap {s t : State} (h : engineTurn s = .next t) : t.cap = s.cap := by
  rcases engineTurn_cases s with ⟨_, hs⟩ | ⟨_, u, t', hu, hw, hs⟩ <;> cases hs.symm.trans h
  · rfl
  · rw [hw.cap_eq]
    rcases hu with rfl | rfl
    · rfl
    · exact sample_cap s

/-! ### A bus transaction -/

/-- What a bus transaction does: a read, an unmapped read, nothing, a dropped or reserved write, or, while not BUSY, an
accepted command or a store to an input register (R100 to R109, R63). -/
inductive BusEffect (s : State) : State → Prop where
  | read (r : Reg) : BusEffect s (busRead r s)
  | readUnmapped : BusEffect s (busReadUnmapped s)
  | nothing : BusEffect s s
  | dropped : BusEffect s (setCmderr s)
  | decode (hf : s.fsm = .idle) : BusEffect s { clearResults s with fsm := .lenchk }
  | clear (hf : s.fsm = .idle) : BusEffect s { clearResults s with cmderr := false }
  | config (d : Word) (hf : s.fsm = .idle) : BusEffect s (storeConfig d s)
  | rawlen (d : Word) (hf : s.fsm = .idle) : BusEffect s (storeRawlen d s)
  | unit (d : Word) (hf : s.fsm = .idle) : BusEffect s (storeUnit d s)
  | tol (d : Word) (hf : s.fsm = .idle) : BusEffect s (storeTol d s)

theorem busEffect_runCommand (op : BitVec 8) (s : State) : BusEffect s (runCommand op s) := by
  rcases runCommand_cases op s with ⟨_, h⟩ | ⟨_, h⟩ | ⟨_, h⟩ | ⟨_, h⟩ <;> rw [h]
  · exact .nothing
  · rcases startDecode_cases s with ⟨hf, hs⟩ | ⟨_, hs⟩ <;> rw [hs]
    · exact .decode hf
    · exact .dropped
  · rcases acknowledge_cases s with ⟨hf, hs⟩ | ⟨_, hs⟩ <;> rw [hs]
    · exact .clear hf
    · exact .dropped
  · exact .dropped

/-- A write that is dropped while BUSY (R111). -/
theorem busEffect_ite_busy {s u : State} (h : s.fsm = .idle → BusEffect s u) :
    BusEffect s (if busy s then setCmderr s else u) := by
  split
  · exact .dropped
  · next hb => exact h (busy_eq_false.mp (Bool.eq_false_iff.mpr hb))

theorem busTurn_effect (req : BitVec 9) (d : Word) (s : State) :
    ∃ t, busTurn req d s = .next t ∧ BusEffect s t := by
  rcases busTurn_cases req d s with ⟨r, h⟩ | h | h | h | ⟨r, hr, h⟩
  · exact ⟨_, h, .read r⟩
  · exact ⟨_, h, .readUnmapped⟩
  · exact ⟨_, h, .nothing⟩
  · exact ⟨_, h, busEffect_runCommand _ s⟩
  · simp only [List.mem_cons, List.not_mem_nil, or_false] at hr
    rcases hr with rfl | rfl | rfl | rfl
    · exact ⟨_, h, busEffect_ite_busy (.config d)⟩
    · exact ⟨_, h, busEffect_ite_busy (.rawlen d)⟩
    · exact ⟨_, h, busEffect_ite_busy (.unit d)⟩
    · exact ⟨_, h, busEffect_ite_busy (.tol d)⟩

theorem BusEffect.cap_eq {s t : State} (h : BusEffect s t) : t.cap = s.cap := by
  cases h <;> simp

/-! ### The step -/

/-- What a step that goes on has run: a capture write, a reset, a bus transaction or the engine's turn, on the state with
that turn taken (R14). -/
theorem step_cases {s t : State} (h : step s = .next t) :
    (∃ k v rest, s.inbox = .capw k v :: rest ∧ t = storeCap k v (dropTurn s)) ∨
    (∃ rest, s.inbox = .reset :: rest ∧ t = resetMdec (dropTurn s)) ∨
    (∃ req d rest, s.inbox = .bus req d :: rest ∧ BusEffect (dropTurn s) t) ∨
    (∃ rest, s.inbox = .engine :: rest ∧ engineTurn (dropTurn s) = .next t) ∨
    (s.inbox = [] ∧ engineTurn s = .next t) := by
  cases hi : s.inbox with
  | nil => exact .inr (.inr (.inr (.inr ⟨rfl, step_nil hi ▸ h⟩)))
  | cons turn rest =>
    rw [step_cons hi] at h
    cases turn with
    | capw k v => cases h; exact .inl ⟨k, v, rest, rfl, rfl⟩
    | reset => cases h; exact .inr (.inl ⟨rest, rfl, rfl⟩)
    | bus req d =>
      obtain ⟨t', ht, he⟩ := busTurn_effect req d (dropTurn s)
      cases ht.symm.trans h
      exact .inr (.inr (.inl ⟨req, d, rest, rfl, he⟩))
    | engine => exact .inr (.inr (.inr (.inl ⟨rest, rfl, h⟩)))
    | narrow req lane => cases h

/-- Settles O32: of the turns a step can run, the capture agent's alone writes `cap`; the engine and the bus do not. -/
theorem onlyTheCaptureAgentWritesCapture : Obligations.OnlyTheCaptureAgentWritesCapture := by
  intro s t h hne
  rcases step_cases h with ⟨k, v, rest, hi, _⟩ | ⟨_, _, rfl⟩ | ⟨_, _, _, _, he⟩ | ⟨_, _, he⟩ | ⟨_, he⟩
  · exact absurd hi (hne k v rest)
  · simp
  · simpa using he.cap_eq
  · simpa using engineTurn_cap he
  · exact engineTurn_cap he

/-! ### Unmapped offsets -/

/-- The map of the register space ends at word number 12 (R61, R63). -/
theorem regOfIndex_eq_none {k : BitVec 6} (h : 13 ≤ k.toNat) : regOfIndex k = none := by
  revert k
  decide

/-- Bit 8 of a request is set exactly where the request is at least 256 (R81). -/
theorem getLsbD_eight_eq_decide (req : BitVec 9) : req.getLsbD 8 = decide (256 ≤ req.toNat) := by
  have hlt := req.isLt
  rw [BitVec.getLsbD, Nat.testBit_eq_decide_div_mod_eq, decide_eq_decide]
  omega

/-- The word number of an unmapped offset selects no register. -/
theorem decodeBus_unmapped {req : BitVec 9} (h : 0x34 ≤ req.toNat % 256) (d : Word) :
    decodeBus req d = .noRow (if 256 ≤ req.toNat then .unmappedWrite else .unmappedRead) := by
  have hk : (req.extractLsb' 2 6).toNat = req.toNat / 4 % 64 := by
    simp [BitVec.extractLsb'_toNat, Nat.shiftRight_eq_div_pow]
  rw [decodeBus, regOfIndex_eq_none (by omega), getLsbD_eight_eq_decide]
  by_cases hw : 256 ≤ req.toNat <;> simp [hw]

/-- A bus turn at an unmapped offset reads 0, or changes nothing (R63). -/
theorem busTurn_unmapped {req : BitVec 9} (h : 0x34 ≤ req.toNat % 256) (d : Word) (s : State) :
    busTurn req d s = .next (if 256 ≤ req.toNat then s else busReadUnmapped s) := by
  rw [busTurn, decode, decodeBus_unmapped h]
  by_cases hw : 256 ≤ req.toNat <;> simp [hw]

theorem dropTurn_of_inbox {s : State} {t : Turn} {rest : List Turn} (h : s.inbox = t :: rest) :
    dropTurn s = { s with inbox := rest } := by
  simp [dropTurn, h]

/-- Settles O13: an unmapped offset selects no row, and the request's direction decides what the bus turn does. -/
theorem unmappedOffsetsReadZeroAndIgnoreWrites : Obligations.UnmappedOffsetsReadZeroAndIgnoreWrites := by
  intro s req d rest hi hu
  have hstep : step s = busTurn req d { s with inbox := rest } := by
    rw [step_cons hi, dropTurn_of_inbox hi]
    rfl
  rw [hstep, busTurn_unmapped hu]
  refine ⟨fun hr => ?_, fun hw => ?_⟩
  · rw [if_neg (by omega)]
    rfl
  · rw [if_pos hw]

end Sys2Proof.Machine
end

section
/-! Proofs: a command's row and a write to CMD run the same operation (spec/30_encoding.md R82, R83). -/

namespace Sys2Proof.Machine

/-- The operation a command byte names is the meaning of the row that the byte decodes to (R83). -/
theorem exec_decodeCmd (op : BitVec 8) (s : State) : exec (decodeCmd op) s = .next (runCommand op s) := by
  rcases runCommand_cases op s with ⟨hop, h⟩ | ⟨hop, h⟩ | ⟨hop, h⟩ | ⟨hop, h⟩ <;> rw [h, decodeCmd]
  · rw [if_pos hop]
    rfl
  · rw [if_neg (by omega), if_pos hop]
    rfl
  · rw [if_neg (by omega), if_neg (by omega), if_pos hop]
    rfl
  · rw [if_neg (by omega), if_neg (by omega), if_neg (by omega)]
    split_ifs <;> rfl

/-- A write to CMD runs the command of its low byte (R22, R82). -/
theorem exec_wrCmd (lo : BitVec 2) (d : Word) (s : State) :
    exec (.wrCmd lo d) s = .next (runCommand (BitVec.ofNat 8 d.toNat) s) := by
  rw [BitVec.ofNat_toNat]
  rfl

/-- Settles O25: the write and the row of its low byte both run that byte's command. -/
theorem writeToCmdRunsTheCommandOfItsLowByte : Obligations.WriteToCmdRunsTheCommandOfItsLowByte := by
  intro lo d i s hi
  obtain rfl : decodeCmd (BitVec.ofNat 8 d.toNat) = i := Decoded.instr.inj hi
  exact ⟨_, exec_wrCmd lo d s, exec_decodeCmd _ s⟩

end Sys2Proof.Machine
end

section
/-! Proofs: what commands and register writes answer, by row and by whether the engine is BUSY, and how a bus transaction
leaves a running decode alone (spec/40_commands.md R101 to R111). -/

namespace Sys2Proof.Machine

/-! ### Commands -/

theorem startDecode_of_idle {s : State} (h : s.fsm = .idle) :
    startDecode s = { clearResults s with fsm := .lenchk } := by
  rw [startDecode, busy_eq_false.mpr h]
  rfl

theorem startDecode_of_busy {s : State} (h : s.fsm ≠ .idle) : startDecode s = setCmderr s :=
  if_pos (busy_eq_true.mpr h)

theorem acknowledge_of_idle {s : State} (h : s.fsm = .idle) :
    acknowledge s = { clearResults s with cmderr := false } := by
  rw [acknowledge, busy_eq_false.mpr h]
  rfl

theorem acknowledge_of_busy {s : State} (h : s.fsm ≠ .idle) : acknowledge s = setCmderr s :=
  if_pos (busy_eq_true.mpr h)

theorem runCommand_of_reserved {op : BitVec 8} (h : 3 ≤ op.toNat) (s : State) : runCommand op s = setCmderr s := by
  simp only [runCommand, if_neg (show op.toNat ≠ 0 by omega), if_neg (show op.toNat ≠ 1 by omega),
    if_neg (show op.toNat ≠ 2 by omega)]

/-- A command while BUSY is a NOP or an error: no command reaches the running decode (R101 to R104). -/
theorem runCommand_of_busy {s : State} (h : s.fsm ≠ .idle) (op : BitVec 8) :
    runCommand op s = s ∨ runCommand op s = setCmderr s := by
  rcases runCommand_cases op s with ⟨_, hr⟩ | ⟨_, hr⟩ | ⟨_, hr⟩ | ⟨_, hr⟩
  · exact .inl hr
  · exact .inr (hr.trans (startDecode_of_busy h))
  · exact .inr (hr.trans (acknowledge_of_busy h))
  · exact .inr hr

theorem exec_decode (s : State) : exec .decode s = .next (startDecode s) := rfl

theorem exec_clear (s : State) : exec .clear s = .next (acknowledge s) := rfl

/-- Settles O26: the row runs `startDecode`, whose two branches are the two clauses. -/
theorem decodeCommandStartsOrIsDropped : Obligations.DecodeCommandStartsOrIsDropped := by
  intro s
  rw [exec_decode]
  constructor <;> intro hf
  · rw [startDecode_of_idle hf]
    rfl
  · rw [startDecode_of_busy hf]
    rfl

/-- Settles O27: the row runs `acknowledge`, whose two branches are the two clauses. -/
theorem clearCommandAcknowledgesOrIsDropped : Obligations.ClearCommandAcknowledgesOrIsDropped := by
  intro s
  rw [exec_clear]
  constructor <;> intro hf
  · rw [acknowledge_of_idle hf]
    rfl
  · rw [acknowledge_of_busy hf]
    rfl

/-- Settles O28: each reserved row is `setCmderr`, and so is the command of every opcode from 3. -/
theorem reservedCommandsOnlySetCmderr : Obligations.ReservedCommandsOnlySetCmderr := by
  intro op s
  refine ⟨rfl, rfl, rfl, rfl, rfl, rfl, rfl, fun hop => ⟨decodeCmd op, rfl, ?_⟩⟩
  rw [exec_decodeCmd, runCommand_of_reserved hop]
  rfl

/-! ### Register writes -/

/-- A write to a register other than CMD and the four input registers changes nothing, BUSY or not (R109). -/
theorem exec_writeInstr_readOnly {r : Reg} (hr : r ∉ [Reg.cmd, .config, .rawlen, .unit, .tol]) (lo : BitVec 2)
    (d : Word) (s : State) : exec (writeInstr r lo d) s = .next s := by
  cases r with
  | status | rawval | addr | command | rpt | bitcnt | proto | diag => rfl
  | cmd | config | rawlen | unit | tol => exact absurd hr (by decide)

/-- A write to an input register while BUSY is dropped (R105 to R108). -/
theorem exec_writeInstr_input_of_busy {r : Reg} (hr : r ∈ [Reg.config, .rawlen, .unit, .tol]) (lo : BitVec 2)
    (d : Word) {s : State} (h : s.fsm ≠ .idle) : exec (writeInstr r lo d) s = .next (setCmderr s) := by
  cases r with
  | config | rawlen | unit | tol => exact congrArg Host.Outcome.next (if_pos (busy_eq_true.mpr h))
  | cmd | status | rawval | addr | command | rpt | bitcnt | proto | diag => exact absurd hr (by decide)

/-- A write to any register while BUSY changes nothing but CMDERR (R111). -/
theorem exec_writeInstr_of_busy (r : Reg) (lo : BitVec 2) (d : Word) {s : State} (h : s.fsm ≠ .idle) :
    exec (writeInstr r lo d) s = .next s ∨ exec (writeInstr r lo d) s = .next (setCmderr s) := by
  by_cases hro : r ∉ [Reg.cmd, .config, .rawlen, .unit, .tol]
  · exact .inl (exec_writeInstr_readOnly hro lo d s)
  · rcases List.mem_cons.mp (not_not.mp hro) with rfl | hin
    · exact (runCommand_of_busy h (byteField d)).imp (congrArg Host.Outcome.next) (congrArg Host.Outcome.next)
    · exact .inr (exec_writeInstr_input_of_busy hin lo d h)

/-- Settles O24: each of the eight rows is the write of a read-only register. -/
theorem readOnlyWritesAndNopChangeNothing : Obligations.ReadOnlyWritesAndNopChangeNothing := by
  intro lo d s
  have hro (r : Reg) (hr : r ∉ [Reg.cmd, .config, .rawlen, .unit, .tol]) : exec (writeInstr r lo d) s = .next s :=
    exec_writeInstr_readOnly hr lo d s
  exact ⟨hro .status (by decide), hro .rawval (by decide), hro .addr (by decide), hro .command (by decide),
    hro .rpt (by decide), hro .bitcnt (by decide), hro .proto (by decide), hro .diag (by decide), rfl⟩

/-! ### Bus transactions, by direction -/

/-- A read transaction changes only the word on the bus, whatever the offset (R100, R63). -/
theorem busTurn_read {req : BitVec 9} (h : req.toNat < 256) (d : Word) (s : State) :
    ∃ w, busTurn req d s = .next { s with rdata := w } := by
  have hdir : req.getLsbD 8 = false :=
    (getLsbD_eight_eq_decide req).trans (decide_eq_false (Nat.not_le.mpr h))
  rw [busTurn, decode, decodeBus, hdir]
  cases regOfIndex (req.extractLsb' 2 6) with
  | none => exact ⟨0, rfl⟩
  | some r => exact ⟨readWord r s, exec_readInstr r _ s⟩

/-- A write transaction while BUSY changes nothing but CMDERR, whatever the offset (R111, R63). -/
theorem busTurn_write_of_busy {req : BitVec 9} (h : 256 ≤ req.toNat) (d : Word) {s : State} (hf : s.fsm ≠ .idle) :
    busTurn req d s = .next s ∨ busTurn req d s = .next (setCmderr s) := by
  have hdir : req.getLsbD 8 = true := (getLsbD_eight_eq_decide req).trans (decide_eq_true h)
  rw [busTurn, decode, decodeBus, hdir]
  cases regOfIndex (req.extractLsb' 2 6) with
  | none => exact .inl rfl
  | some r => exact exec_writeInstr_of_busy r _ d hf

/-- Settles O48: a read keeps CMDERR and changes the read data; a write keeps the read data, and keeps or sets CMDERR. -/
theorem busTransactionsLeaveARunningDecodeAlone : Obligations.BusTransactionsLeaveARunningDecodeAlone := by
  intro s req d rest hf hi
  have hstep : step s = busTurn req d { s with inbox := rest } := by
    rw [step_cons hi, dropTurn_of_inbox hi]
    rfl
  rw [hstep]
  rcases Nat.lt_or_ge req.toNat 256 with hr | hw
  · obtain ⟨w, ht⟩ := busTurn_read hr d { s with inbox := rest }
    exact ⟨s.cmderr, w, ht, id, fun hw => absurd hr (Nat.not_lt.mpr hw), fun _ => rfl⟩
  · rcases busTurn_write_of_busy (s := { s with inbox := rest }) hw d hf with ht | ht
    · exact ⟨s.cmderr, s.rdata, ht, id, fun _ => rfl, fun _ => rfl⟩
    · exact ⟨true, s.rdata, ht, fun _ => rfl, fun _ => rfl, fun hr => absurd hr (Nat.not_lt.mpr hw)⟩

end Sys2Proof.Machine
end

section
/-! Proofs: what an entry's classification is (spec/41_sampler.md R122, R124), and what one sample answers (R123). -/

namespace Sys2Proof.Machine

/-! ### The classification of a duration -/

/-- `match(w, k)` is |w - k*T| <= E: the model's two sums on naturals say it without a subtraction (R122). -/
theorem windowMatch_iff_abs_le (t e w k : Nat) :
    windowMatch t e w k = true ↔ |(w : Int) - k * t| ≤ e := by
  rw [windowMatch_iff, abs_le]
  omega

theorem classify_eq_some_iff {n t e w k : Nat} :
    classify n t e w = some k ↔ 1 ≤ k ∧ k ≤ n ∧ windowMatch t e w k = true ∧
      ∀ j, 1 ≤ j → j < k → ¬windowMatch t e w j = true := by
  simp only [classify, List.find?_range'_eq_some, List.mem_range'_1, Bool.not_eq_true', Bool.not_eq_true]
  constructor
  · rintro ⟨hm, ⟨h1, hn⟩, hleast⟩
    exact ⟨h1, by omega, hm, hleast⟩
  · rintro ⟨h1, hn, hm, hleast⟩
    exact ⟨hm, ⟨h1, by omega⟩, hleast⟩

theorem classify_eq_none_iff {n t e w : Nat} :
    classify n t e w = none ↔ ∀ j, 1 ≤ j → j ≤ n → ¬windowMatch t e w j = true := by
  simp only [classify, List.find?_range'_eq_none, Bool.not_eq_true', Bool.not_eq_true, Nat.add_comm 1 n, Nat.lt_succ_iff]

/-- A duration within E of both T and 2*T puts the two, T apart, within 2*E of each other (R124). -/
theorem le_two_mul_of_matches_one_and_two {t e w : Nat} (h1 : |(w : Int) - t| ≤ e) (h2 : |(w : Int) - 2 * t| ≤ e) :
    t ≤ 2 * e := by
  rw [abs_le] at h1 h2
  omega

/-- Settles O36: `classify` searches 1 to `MAX_UNITS` upwards, so that it stops at the least match or finds none. -/
theorem classificationIsTheLeastMatch : Obligations.ClassificationIsTheLeastMatch := by
  intro n t e w
  simp only [← windowMatch_iff_abs_le]
  exact ⟨fun _ => classify_eq_some_iff, classify_eq_none_iff, le_two_mul_of_matches_one_and_two⟩

/-! ### One sample, by where the cursor stands -/

/-- The level of an entry as a sample (R121). -/
theorem levelAt_toSample (i : Nat) : (levelAt i).toSample = if i % 2 = 1 then .mark else .space := by
  unfold levelAt
  split <;> rfl

/-- The cursor's move with the entry index as a number (R123). -/
theorem advance_eq (k : Nat) (s : State) :
    advance k s = if s.used + 1 < k then { s with used := s.used + 1, cur := k }
      else { s with used := 0, cur := 0, off := BitVec.ofNat 8 (s.off.toNat + 1) } := by
  have hoff : s.off + 1 = BitVec.ofNat 8 (s.off.toNat + 1) := by simp [BitVec.ofNat_add]
  rcases advance_cases k s with ⟨hlast, h⟩ | ⟨hmore, h⟩
  · rw [h, hoff, if_neg (Nat.not_lt.mpr hlast)]
  · rw [h, if_pos hmore]

theorem sample_of_end {s : State} (h : s.rawlen.toNat ≤ s.off.toNat) : sample s = (.exhausted, s) :=
  if_pos h

theorem sample_of_midEntry {s : State} (h : s.off.toNat < s.rawlen.toNat) (hc : s.cur ≠ 0) :
    sample s = ((levelAt s.off.toNat).toSample, advance s.cur s) := by
  rw [sample, if_neg (Nat.not_le.mpr h), if_neg hc]

theorem sample_of_classified {s : State} {k : Nat} (h : s.off.toNat < s.rawlen.toNat) (hc : s.cur = 0)
    (hk : classifyEntry s (capRead s.off.toNat s).1 = some k) :
    sample s = ((levelAt s.off.toNat).toSample, advance k (capRead s.off.toNat s).2) := by
  rw [sample, if_neg (Nat.not_le.mpr h), if_pos hc, hk]

theorem sample_of_unclassified {s : State} (h : s.off.toNat < s.rawlen.toNat) (hc : s.cur = 0)
    (hk : classifyEntry s (capRead s.off.toNat s).1 = none) :
    sample s = (.error, (capRead s.off.toNat s).2) := by
  rw [sample, if_neg (Nat.not_le.mpr h), if_pos hc, hk]

/-- Settles O37: a sample that is a level takes its unit from the entry in progress, or from the entry it classifies. -/
theorem sampleFollowsTheSamplerRule : Obligations.SampleFollowsTheSamplerRule := by
  intro s
  refine ⟨sample_of_end, fun h k u hu => ?_, sample_of_unclassified⟩
  rcases hu with ⟨hc, rfl, rfl⟩ | ⟨hc, rfl, hk⟩
  · rw [sample_of_midEntry h hc, levelAt_toSample, advance_eq]
  · rw [sample_of_classified h hc hk, levelAt_toSample, advance_eq, capRead_used, capRead_off]

end Sys2Proof.Machine
end

section
/-! Proofs: the three fields of a frame value, bit by bit (spec/42_bit_assembly.md R151, R152). -/

namespace Sys2Proof.Machine

/-- A field of at most 32 bits placed at bit 0 keeps its bits (R84). -/
theorem getLsbD_place_zero {n : Nat} (hn : n ≤ 32) (v : BitVec n) (i : Nat) :
    (place 0 v).getLsbD i = v.getLsbD i := by
  rw [BitVec.getLsbD, BitVec.getLsbD, place_zero_toNat hn]

theorem getLsbD_addressOf (raw : Raw) (i : Nat) : (addressOf raw).getLsbD i = raw.getLsbD (9 + i) := by
  rw [BitVec.getLsbD, addressOf_toNat, Nat.testBit_div_two_pow, Nat.add_comm, BitVec.getLsbD]

theorem getLsbD_commandOf (raw : Raw) (i : Nat) :
    (commandOf raw).getLsbD i = (decide (i < 8) && raw.getLsbD i) := by
  rw [BitVec.getLsbD, commandOf_toNat, Nat.testBit_mod_two_pow, BitVec.getLsbD]

theorem getLsbD_readWord_rawval (s : State) (i : Nat) : (readWord .rawval s).getLsbD i = s.rawval.getLsbD i :=
  getLsbD_place_zero (by decide) s.rawval i

theorem getLsbD_readWord_addr (s : State) (i : Nat) : (readWord .addr s).getLsbD i = s.rawval.getLsbD (9 + i) :=
  (getLsbD_place_zero (by decide) _ i).trans (getLsbD_addressOf s.rawval i)

theorem getLsbD_readWord_command (s : State) (i : Nat) :
    (readWord .command s).getLsbD i = (decide (i < 8) && s.rawval.getLsbD i) :=
  (getLsbD_place_zero (by decide) _ i).trans (getLsbD_commandOf s.rawval i)

theorem getLsbD_readWord_rpt (s : State) (i : Nat) :
    (readWord .rpt s).getLsbD i = (decide (i = 0) && s.rawval.getLsbD 8) := by
  refine (getLsbD_place_zero (by decide) _ i).trans ?_
  cases i with
  | zero => simp [repeatOf, show Config.repeatBit = 8 by decide]
  | succ i => simp

/-- ADDR put back in its place holds the bits of RAWVAL from 9 up (R152). -/
theorem getLsbD_addr_in_place (s : State) (i : Nat) :
    (readWord .addr s <<< 9).getLsbD i = (decide (9 ≤ i) && s.rawval.getLsbD i) := by
  rw [BitVec.getLsbD_shiftLeft, getLsbD_readWord_addr]
  by_cases h : 9 ≤ i
  · have hwidth : s.rawval.getLsbD i = true → i < 32 := fun hb => (BitVec.lt_of_getLsbD hb).trans (by decide)
    simpa [h, Nat.not_lt.mpr h, Nat.add_sub_cancel' h] using hwidth
  · simp [h, Nat.not_le.mp h]

/-- REPEAT put back in its place holds bit 8 of RAWVAL (R152). -/
theorem getLsbD_rpt_in_place (s : State) (i : Nat) :
    (readWord .rpt s <<< 8).getLsbD i = (decide (i = 8) && s.rawval.getLsbD i) := by
  rw [BitVec.getLsbD_shiftLeft, getLsbD_readWord_rpt]
  rcases Nat.lt_trichotomy i 8 with hi | rfl | hi
  · simp [hi, hi.ne]
  · simp
  · simp [hi.ne', (Nat.sub_pos_of_lt hi).ne']

theorem nine_le_of_addr_bit {s : State} {i : Nat} (h : (readWord .addr s <<< 9).getLsbD i = true) : 9 ≤ i := by
  rw [getLsbD_addr_in_place, Bool.and_eq_true, decide_eq_true_eq] at h
  exact h.1

theorem eq_eight_of_rpt_bit {s : State} {i : Nat} (h : (readWord .rpt s <<< 8).getLsbD i = true) : i = 8 := by
  rw [getLsbD_rpt_in_place, Bool.and_eq_true, decide_eq_true_eq] at h
  exact h.1

theorem lt_eight_of_command_bit {s : State} {i : Nat} (h : (readWord .command s).getLsbD i = true) : i < 8 := by
  rw [getLsbD_readWord_command, Bool.and_eq_true, decide_eq_true_eq] at h
  exact h.1

/-- Words with no set bit in common meet in 0. -/
theorem and_eq_zero_of_disjoint {x y : Word} (h : ∀ i, x.getLsbD i = true → y.getLsbD i = true → False) :
    x &&& y = 0 := by
  refine BitVec.eq_of_getLsbD_eq fun i _ => ?_
  rw [BitVec.getLsbD_and, BitVec.ofNat_eq_ofNat, BitVec.getLsbD_zero, Bool.and_eq_false_imp]
  exact fun hx => Bool.eq_false_iff.mpr (h i hx)

/-- The fields in place hold the bits of RAWVAL from 9 up, at 8 and below 8, and each index is one of these (R152). -/
theorem fields_rebuild_rawval (s : State) :
    (readWord .addr s <<< 9) ||| (readWord .rpt s <<< 8) ||| readWord .command s = readWord .rawval s := by
  refine BitVec.eq_of_getLsbD_eq fun i _ => ?_
  rw [BitVec.getLsbD_or, BitVec.getLsbD_or, getLsbD_addr_in_place, getLsbD_rpt_in_place, getLsbD_readWord_command,
    getLsbD_readWord_rawval]
  rcases Nat.lt_trichotomy i 8 with hi | rfl | hi
  · simp [hi, hi.ne, Nat.not_le.mpr (hi.trans (Nat.lt_succ_self 8))]
  · simp
  · simp [show 9 ≤ i from hi, hi.ne', hi.not_gt]

/-- Settles O19: the fields in place rebuild the value, and no index lies in two of their ranges. -/
theorem fieldsPartitionRawval : Obligations.FieldsPartitionRawval := by
  intro s
  refine ⟨fields_rebuild_rawval s, and_eq_zero_of_disjoint fun i ha hr => ?_,
    and_eq_zero_of_disjoint fun i ha hc => ?_, and_eq_zero_of_disjoint fun i hr hc => ?_⟩
  · have := nine_le_of_addr_bit ha
    have := eq_eight_of_rpt_bit hr
    omega
  · have := nine_le_of_addr_bit ha
    have := lt_eight_of_command_bit hc
    omega
  · have := eq_eight_of_rpt_bit hr
    have := lt_eight_of_command_bit hc
    omega

end Sys2Proof.Machine
end

section
/-! Proofs: what the length check and PAIR_A answer, and where a decode can end with SUCCESS
(spec/42_bit_assembly.md R142, R144, R148, R149). -/

namespace Sys2Proof.Machine

/-! ### The rows of the engine -/

theorem exec_fsmLenchk (s : State) : exec .fsmLenchk s = .next (lenchkStep s) := rfl

theorem exec_fsmPairA (s : State) : exec .fsmPairA s = .next (pairAStep s) := rfl

/-- A completion as one record: the result registers, DIAG where DIAG_EN is 1, and IDLE (R154). -/
theorem complete_eq (r : Result) (q : Reason) (s : State) :
    complete r q s = { s with
      done := true, result := r, rawval := if r = .success then s.acc else 0, fsm := .idle
      diagReason := if s.diagEn then q else s.diagReason
      diagPos := if s.diagEn then (if r = .rejected then 0 else s.off) else s.diagPos
      diagNbits := if s.diagEn then (if r = .rejected then 0 else bitsDecoded s) else s.diagNbits } := by
  unfold complete writeDiag
  split <;> rfl

/-! ### The length check -/

/-- STRICT rejects outside 14 to 48; the check of PERMISSIVE, both at once, is never true (R149, R150). -/
theorem lengthRejects_iff {l : Nat} {m : LenMode} :
    lengthRejects l m = true ↔ m = .strict ∧ (l < 14 ∨ 48 < l) := by
  have hmin : Config.rawlenMin = 14 := by decide
  have hmax : Config.rawlenMax = 48 := by decide
  cases m with
  | strict => simp [lengthRejects, hmin, hmax]
  | permissive =>
    have hnot : ¬(l < 14 ∧ 48 < l) := by omega
    simpa [lengthRejects, hmin, hmax] using hnot

theorem lenchkStep_of_rejects {s : State} (h : lengthRejects s.rawlen.toNat s.lcm = true) :
    lenchkStep s = complete .rejected .length s :=
  if_pos h

theorem lenchkStep_of_accepts {s : State} (h : ¬lengthRejects s.rawlen.toNat s.lcm = true) :
    lenchkStep s = initCursor s :=
  if_neg h

/-- Settles O38: the length check decides between the completion REJECTED and the cursor's initialization. -/
theorem lengthCheckRejectsOrInitializes : Obligations.LengthCheckRejectsOrInitializes := by
  intro s
  refine ⟨rfl, fun hok => ?_, fun hm hl => ?_⟩ <;> rw [exec_fsmLenchk]
  · have hacc : ¬lengthRejects s.rawlen.toNat s.lcm = true := by
      rw [lengthRejects_iff]
      rintro ⟨hm, hl⟩
      rcases hok with hp | hin
      · exact absurd (hm.symm.trans hp) (by decide)
      · omega
    rw [lenchkStep_of_accepts hacc]
    rfl
  · rw [lenchkStep_of_rejects (lengthRejects_iff.mpr ⟨hm, hl⟩), complete_eq]
    rfl

/-! ### PAIR_A -/

theorem finishFrame_eq (s : State) :
    finishFrame s = complete (if s.nb.toNat = 23 then .success else .malformed)
      (if s.nb.toNat = 23 then .none else .bitcount) s := by
  rcases finishFrame_cases s with ⟨hn, h⟩ | ⟨hn, h⟩ <;> simp [h, hn]

theorem pairAStep_of_end {s : State} (h : s.rawlen.toNat ≤ s.off.toNat) : pairAStep s = finishFrame s :=
  if_pos h

theorem pairAStep_of_inside {s : State} (h : s.off.toNat < s.rawlen.toNat) :
    pairAStep s = firstHalf (sample s).1 (sample s).2 :=
  if_neg (Nat.not_le.mpr h)

theorem Level.toSample_ne_exhausted (a : Level) : a.toSample ≠ .exhausted := by
  cases a <;> decide

/-- `Sample()` answers EXHAUSTED only at the end of the frame (R123). -/
theorem sample_ne_exhausted {s : State} (h : s.off.toNat < s.rawlen.toNat) : (sample s).1 ≠ .exhausted := by
  rcases sample_cases s with ⟨he, _⟩ | ⟨_, _, _, hs⟩ | ⟨_, _, _, _, hs⟩ | ⟨_, _, hs⟩
  · exact absurd h (Nat.not_lt.mpr he)
  · simp [hs]
  · rw [hs]; exact Level.toSample_ne_exhausted _
  · rw [hs]; exact Level.toSample_ne_exhausted _

/-- An ERROR sample leaves the cursor at its entry (R123, R125). -/
theorem sample_error_off {s u : State} (h : sample s = (.error, u)) : u.off = s.off := by
  have hlevel (a : Level) : a.toSample ≠ .error := by cases a <;> decide
  rcases sample_cases s with ⟨_, hs⟩ | ⟨_, _, _, hs⟩ | ⟨_, _, _, _, hs⟩ | ⟨_, _, hs⟩ <;>
    obtain ⟨ha, rfl⟩ := Prod.mk.inj (hs.symm.trans h)
  · rfl
  · exact capRead_off _ s
  · exact absurd ha (hlevel _)
  · exact absurd ha (hlevel _)

/-- Settles O40: past the last entry PAIR_A finishes the frame by the bit count; before it, it goes by its sample. -/
theorem pairAEndsTheFrameOrLatches : Obligations.PairAEndsTheFrameOrLatches := by
  intro s
  rw [exec_fsmPairA]
  refine ⟨fun hend => ?_, fun hin u => ⟨fun hs => ?_, fun hs => ?_, fun hs => ?_, fun hs => ?_⟩⟩
  · rw [pairAStep_of_end hend, finishFrame_eq, complete_eq, bitsDecoded_eq]
    by_cases hn : s.nb.toNat = 23 <;> simp [hn]
  · rw [pairAStep_of_inside hin, hs]
    rfl
  · rw [pairAStep_of_inside hin, hs]
    rfl
  · have hoff := sample_error_off hs
    obtain rfl : (sample s).2 = u := by rw [hs]
    rw [pairAStep_of_inside hin, hs, firstHalf, complete_eq, bitsDecoded_eq]
    simp [hoff]
  · exact sample_ne_exhausted hin (by rw [hs])

/-! ### Where SUCCESS comes from -/

/-- A decode has ended with SUCCESS. -/
def Succeeded (t : State) : Prop :=
  t.fsm = .idle ∧ t.result = .success

/-- A completion succeeds exactly with the result SUCCESS (R154). -/
@[simp] theorem succeeded_complete (r : Result) (q : Reason) (s : State) :
    Succeeded (complete r q s) ↔ r = .success := by
  simp [Succeeded]

theorem not_succeeded_lenchkStep (s : State) : ¬Succeeded (lenchkStep s) := by
  rcases lenchkStep_cases s with ⟨_, h⟩ | ⟨_, h⟩ <;> rw [h]
  · simp
  · simp [Succeeded]

theorem not_succeeded_startStep (b : Sample) (s : State) : ¬Succeeded (startStep b s) := by
  cases b with
  | mark => simp [startStep, Succeeded]
  | space | error | exhausted => simp [startStep]

theorem not_succeeded_applyPair (a b : Level) (s : State) : ¬Succeeded (applyPair (pairDecode a b) s) := by
  rcases applyPair_cases a b s with ⟨_, h⟩ | ⟨_, h⟩ <;> rw [h]
  · simp [Succeeded]
  · simp

theorem not_succeeded_secondHalf (b : Sample) (s : State) : ¬Succeeded (secondHalf b s) := by
  cases b with
  | mark => exact not_succeeded_applyPair s.lvlA .mark s
  | space | exhausted => exact not_succeeded_applyPair s.lvlA .space s
  | error => simp [secondHalf]

theorem not_succeeded_firstHalf {a : Sample} (h : a ≠ .exhausted) (s : State) : ¬Succeeded (firstHalf a s) := by
  cases a with
  | space | mark => simp [firstHalf, Succeeded]
  | error => simp [firstHalf]
  | exhausted => exact absurd rfl h

/-- PAIR_A succeeds only at the end of the frame, with 23 bits (R148). -/
theorem succeeded_pairAStep {s : State} (h : Succeeded (pairAStep s)) :
    s.rawlen.toNat ≤ s.off.toNat ∧ s.nb.toNat = 23 ∧ pairAStep s = complete .success .none s := by
  rcases Nat.lt_or_ge s.off.toNat s.rawlen.toNat with hin | hend
  · rw [pairAStep_of_inside hin] at h
    exact absurd h (not_succeeded_firstHalf (sample_ne_exhausted hin) _)
  · rw [pairAStep_of_end hend] at h ⊢
    rcases finishFrame_cases s with ⟨hn, hs⟩ | ⟨_, hs⟩ <;> rw [hs] at h
    · exact ⟨hend, hn, hs⟩
    · simp at h

/-- Of the engine's states, PAIR_A alone can bring a decode to SUCCESS (R148). -/
theorem engineTurn_succeeded {s t : State} (hf : s.fsm ≠ .idle) (h : engineTurn s = .next t) (hd : Succeeded t) :
    s.fsm = .pairA ∧ s.rawlen.toNat ≤ s.off.toNat ∧ s.nb.toNat = 23 ∧ t = complete .success .none s := by
  rw [engineTurn_eq] at h
  cases hq : s.fsm <;> rw [hq] at h <;> cases h
  case idle => exact absurd hq hf
  case lenchk => exact absurd hd (not_succeeded_lenchkStep s)
  case start => exact absurd hd (not_succeeded_startStep _ _)
  case pairA => exact ⟨rfl, succeeded_pairAStep hd⟩
  case pairB => exact absurd hd (not_succeeded_secondHalf _ _)

/-- No bus transaction moves a BUSY engine (R111). -/
theorem BusEffect.fsm_eq_of_busy {s t : State} (h : BusEffect s t) (hf : s.fsm ≠ .idle) : t.fsm = s.fsm := by
  cases h with
  | decode hi => exact absurd hi hf
  | read | readUnmapped | nothing | dropped | clear | config | rawlen | unit | tol => rfl

/-- Settles O52: of the steps of a BUSY machine only the engine's can end the decode with a result, and of the engine's
steps only that of PAIR_A can give SUCCESS. -/
theorem successNeedsExactly23Bits : Obligations.SuccessNeedsExactly23Bits := by
  refine ⟨fun s t hf h hi hr => ?_, fun s hf hi hend hn => ?_⟩
  · have hengine {s' : State} (hf' : s'.fsm ≠ .idle) (he : engineTurn s' = .next t) :
        s'.fsm = .pairA ∧ s'.rawlen.toNat ≤ s'.off.toNat ∧ s'.nb.toNat = 23 ∧ t.rawval = s'.acc ∧ t.done = true := by
      obtain ⟨hq, hend, hn, rfl⟩ := engineTurn_succeeded hf' he ⟨hi, hr⟩
      exact ⟨hq, hend, hn, by simp, by simp⟩
    rcases step_cases h with ⟨_, _, _, _, rfl⟩ | ⟨_, _, rfl⟩ | ⟨_, _, _, _, he⟩ | ⟨_, _, he⟩ | ⟨_, he⟩
    · exact absurd hi hf
    · exact absurd hr Result.noConfusion
    · exact absurd ((he.fsm_eq_of_busy hf).symm.trans hi) hf
    · exact hengine (s' := dropTurn s) hf he
    · exact hengine hf he
  · refine ⟨pairAStep s, by rw [step_nil hi, engineTurn_eq, hf], ?_⟩
    rw [pairAStep_of_end hend, finishFrame_eq, if_neg hn, if_neg hn]
    simp +contextual

end Sys2Proof.Machine
end

section
/-! Proofs: the bit count of a running decode stays within the entries passed (spec/42_bit_assembly.md R157). -/

namespace Sys2Proof.Machine

/-! ### Runs -/

theorem stepN_succ {k : Nat} {s t : State} (h : stepN (k + 1) s = .next t) :
    ∃ u, step s = .next u ∧ stepN k u = .next t := by
  simp only [stepN, Host.Core.run] at h
  split at h
  · exact ⟨_, ‹_›, h⟩
  · cases h
  · cases h

/-- What every step keeps holds after every run. -/
theorem stepN_keeps {P : State → Prop} (hstep : ∀ s t, P s → step s = .next t → P t) {k : Nat} {s t : State}
    (hs : P s) (h : stepN k s = .next t) : P t := by
  induction k generalizing s with
  | zero => cases h; exact hs
  | succ k ih =>
    obtain ⟨u, hu, ht⟩ := stepN_succ h
    exact ih (hstep s u hs hu) ht

/-! ### The engine's invariant -/

/-- The sampler is inside an accepted frame or at its end: what EngineOk asks in PAIR_A and in PAIR_B alike. -/
def InFrame (s : State) : Prop :=
  lengthRejects s.rawlen.toNat s.lcm = false ∧ CursorOk s ∧ 1 ≤ s.off.toNat ∧ s.off.toNat ≤ s.rawlen.toNat

theorem engineOk_of_idle {s : State} (h : s.fsm = .idle) : EngineOk s := by
  simp only [EngineOk, h]

theorem engineOk_of_lenchk {s : State} (h : s.fsm = .lenchk) : EngineOk s := by
  simp only [EngineOk, h]

theorem engineOk_complete (r : Result) (q : Reason) (s : State) : EngineOk (complete r q s) :=
  engineOk_of_idle rfl

theorem engineOk_pairA_iff {s : State} (h : s.fsm = .pairA) :
    EngineOk s ↔ InFrame s ∧ 2 * s.nb.toNat ≤ unitsPassed s ∧
      (s.off.toNat < s.rawlen.toNat → 2 * s.nb.toNat + 1 ≤ unitsPassed s) := by
  simp only [EngineOk, h, InFrame, and_assoc]

theorem engineOk_pairB_iff {s : State} (h : s.fsm = .pairB) :
    EngineOk s ↔ InFrame s ∧ 2 * s.nb.toNat + 2 ≤ unitsPassed s := by
  simp only [EngineOk, h, InFrame, and_assoc]

/-- A sample that is a level keeps the sampler in the frame and passes at least one unit (R123). -/
theorem sample_inFrame {s u : State} {a : Level} (h : InFrame s) (hs : sample s = (a.toSample, u)) :
    InFrame u ∧ unitsPassed s + 1 ≤ unitsPassed u := by
  obtain ⟨hacc, hc, h1, _⟩ := h
  obtain ⟨hcu, hle, hend, hp⟩ := sample_cursor hc h1 hs
  obtain rfl : (sample s).2 = u := by rw [hs]
  exact ⟨⟨by simpa using hacc, hcu, h1.trans hle, by simpa using hend⟩, hp⟩

theorem engineOk_lenchkStep (s : State) : EngineOk (lenchkStep s) := by
  rcases lenchkStep_cases s with ⟨_, h⟩ | ⟨hacc, h⟩ <;> rw [h]
  · exact engineOk_complete _ _ s
  · exact ⟨hacc, rfl, rfl, rfl⟩

theorem engineOk_startStep {s : State} (hf : s.fsm = .start) (h : EngineOk s) :
    EngineOk (startStep (sample s).1 (sample s).2) := by
  simp only [EngineOk, hf] at h
  obtain ⟨hacc, hoff, hused, hcur⟩ := h
  cases hs : (sample s).1 with
  | mark =>
    have hin : s.off.toNat < s.rawlen.toNat := by
      by_contra hend
      rw [sample_of_end (Nat.not_lt.mp hend)] at hs
      cases hs
    have hframe : InFrame s := ⟨hacc, .inl ⟨hcur, hused⟩, by rw [hoff]; decide, hin.le⟩
    obtain ⟨hu, hp⟩ := sample_inFrame (a := .mark) (u := (sample s).2) hframe (Prod.ext hs rfl)
    exact (engineOk_pairA_iff rfl).mpr ⟨hu, Nat.zero_le _, fun _ => (Nat.le_add_left 1 _).trans hp⟩
  | space | error | exhausted => exact engineOk_complete _ _ _

theorem engineOk_finishFrame (s : State) : EngineOk (finishFrame s) := by
  rw [finishFrame_eq]
  exact engineOk_complete _ _ s

/-- The first sample of a pair pays for one of the two units that PAIR_B asks for. -/
theorem engineOk_latchLevel {s u : State} {a : Level} (hf : s.fsm = .pairA) (h : EngineOk s)
    (hin : s.off.toNat < s.rawlen.toNat) (hs : sample s = (a.toSample, u)) : EngineOk (latchLevel a u) := by
  obtain ⟨hframe, _, hunits⟩ := (engineOk_pairA_iff hf).mp h
  obtain ⟨hu, hp⟩ := sample_inFrame hframe hs
  have hnb : u.nb = s.nb := by
    rw [← sample_nb s, hs]
  refine (engineOk_pairB_iff rfl).mpr ⟨hu, ?_⟩
  have := hunits hin
  change 2 * u.nb.toNat + 2 ≤ unitsPassed u
  rw [hnb]
  omega

theorem engineOk_pairAStep {s : State} (hf : s.fsm = .pairA) (h : EngineOk s) : EngineOk (pairAStep s) := by
  rcases Nat.lt_or_ge s.off.toNat s.rawlen.toNat with hin | hend
  · rw [pairAStep_of_inside hin]
    cases hs : (sample s).1 with
    | space => exact engineOk_latchLevel (a := .space) hf h hin (Prod.ext hs rfl)
    | mark => exact engineOk_latchLevel (a := .mark) hf h hin (Prod.ext hs rfl)
    | error => exact engineOk_complete _ _ _
    | exhausted => exact engineOk_finishFrame _
  · rw [pairAStep_of_end hend]
    exact engineOk_finishFrame s

/-- The count goes up by at most one, less where it wraps around (R147). -/
theorem takeBit_nb_le (b : Bool) (s : State) : (takeBit b s).nb.toNat ≤ s.nb.toNat + 1 := by
  rw [takeBit_nb, BitVec.toNat_add]
  exact Nat.mod_le _ _

/-- A decoded pair uses up two units; one more is passed unless the frame has ended. -/
theorem engineOk_applyPair {u : State} (a b : Level) (hu : InFrame u) (hp : 2 * u.nb.toNat + 2 ≤ unitsPassed u)
    (hin : u.off.toNat < u.rawlen.toNat → 2 * u.nb.toNat + 3 ≤ unitsPassed u) :
    EngineOk (applyPair (pairDecode a b) u) := by
  rcases applyPair_cases a b u with ⟨_, h⟩ | ⟨_, h⟩ <;> rw [h]
  · have hnb := takeBit_nb_le (a == .mark) u
    refine (engineOk_pairA_iff rfl).mpr ⟨hu, ?_, fun hlt => ?_⟩
    · change 2 * (takeBit (a == .mark) u).nb.toNat ≤ unitsPassed u
      omega
    · change 2 * (takeBit (a == .mark) u).nb.toNat + 1 ≤ unitsPassed u
      have := hin hlt
      omega
  · exact engineOk_complete _ _ u

theorem engineOk_secondHalf {s : State} (hf : s.fsm = .pairB) (h : EngineOk s) :
    EngineOk (secondHalf (sample s).1 (sample s).2) := by
  obtain ⟨hframe, hunits⟩ := (engineOk_pairB_iff hf).mp h
  have hlevel {a : Level} (b : Level) (hs : (sample s).1 = a.toSample) :
      EngineOk (applyPair (pairDecode (sample s).2.lvlA b) (sample s).2) := by
    obtain ⟨hu, hp⟩ := sample_inFrame (u := (sample s).2) hframe (Prod.ext hs rfl)
    refine engineOk_applyPair _ _ hu ?_ fun _ => ?_ <;> rw [sample_nb] <;> omega
  cases hs : (sample s).1 with
  | space => exact hlevel (a := .space) .space hs
  | mark => exact hlevel (a := .mark) .mark hs
  | error => exact engineOk_complete _ _ _
  | exhausted =>
    have hend : s.rawlen.toNat ≤ s.off.toNat := by
      by_contra hin
      exact sample_ne_exhausted (Nat.not_le.mp hin) hs
    rw [sample_of_end hend]
    exact engineOk_applyPair _ _ hframe hunits fun hin => absurd hin (Nat.not_lt.mpr hend)

theorem engineTurn_engineOk {s t : State} (hs : EngineOk s) (h : engineTurn s = .next t) : EngineOk t := by
  rw [engineTurn_eq] at h
  cases hf : s.fsm <;> rw [hf] at h <;> cases h
  case idle => exact hs
  case lenchk => exact engineOk_lenchkStep s
  case start => exact engineOk_startStep hf hs
  case pairA => exact engineOk_pairAStep hf hs
  case pairB => exact engineOk_secondHalf hf hs

/-- A bus transaction touches neither cursor nor count, and stores an input register only while IDLE. -/
theorem BusEffect.engineOk {s t : State} (h : BusEffect s t) (hs : EngineOk s) : EngineOk t := by
  cases h with
  | read | readUnmapped | nothing | dropped => exact hs
  | decode => exact engineOk_of_lenchk rfl
  | clear hf | config _ hf | rawlen _ hf | unit _ hf | tol _ hf => exact engineOk_of_idle hf

/-- Every step keeps the engine's invariant, for every `MAX_UNITS` (R157). -/
theorem step_engineOk {s t : State} (hs : EngineOk s) (h : step s = .next t) : EngineOk t := by
  rcases step_cases h with ⟨_, _, _, _, rfl⟩ | ⟨_, _, rfl⟩ | ⟨_, _, _, _, he⟩ | ⟨_, _, he⟩ | ⟨_, he⟩
  · exact hs
  · exact engineOk_of_idle rfl
  · exact he.engineOk hs
  · exact engineTurn_engineOk (s := dropTurn s) hs he
  · exact engineTurn_engineOk hs he

/-! ### The platform's parameters -/

theorem EngineWrite.params_eq {u t : State} (h : EngineWrite u t) : t.params = u.params := by
  cases h <;> simp

theorem engineTurn_params {s t : State} (h : engineTurn s = .next t) : t.params = s.params := by
  rcases engineTurn_cases s with ⟨_, hs⟩ | ⟨_, u, t', hu, hw, hs⟩ <;> cases hs.symm.trans h
  · rfl
  · rw [hw.params_eq]
    rcases hu with rfl | rfl
    · rfl
    · exact sample_params s

theorem BusEffect.params_eq {s t : State} (h : BusEffect s t) : t.params = s.params := by
  cases h <;> rfl

/-- No step changes the platform's parameters, a reset neither (R17). -/
theorem step_params {s t : State} (h : step s = .next t) : t.params = s.params := by
  rcases step_cases h with ⟨_, _, _, _, rfl⟩ | ⟨_, _, rfl⟩ | ⟨_, _, _, _, he⟩ | ⟨_, _, he⟩ | ⟨_, he⟩
  · rfl
  · rfl
  · exact he.params_eq
  · exact engineTurn_params (s := dropTurn s) he
  · exact engineTurn_params he

/-! ### The bit count -/

/-- The most bits the next step can leave counted: PAIR_B's may decode one more (R145, R147). -/
def nbNext (s : State) : Nat :=
  if s.fsm = .pairB then s.nb.toNat + 1 else s.nb.toNat

theorem nb_le_nbNext (s : State) : s.nb.toNat ≤ nbNext s := by
  unfold nbNext
  split <;> omega

theorem pairAStep_nb (s : State) : (pairAStep s).nb = s.nb := by
  rcases Nat.lt_or_ge s.off.toNat s.rawlen.toNat with hin | hend
  · rw [pairAStep_of_inside hin]
    cases (sample s).1 <;> simp [firstHalf, finishFrame_eq]
  · simp [pairAStep_of_end hend, finishFrame_eq]

theorem lenchkStep_nb (s : State) : (lenchkStep s).nb = s.nb := by
  rcases lenchkStep_cases s with ⟨_, h⟩ | ⟨_, h⟩ <;> simp [h]

theorem startStep_nb_le (b : Sample) (s : State) : (startStep b s).nb.toNat ≤ s.nb.toNat := by
  cases b <;> simp [startStep]

theorem EngineWrite.nb_le {u t : State} (h : EngineWrite u t) : t.nb.toNat ≤ u.nb.toNat + 1 := by
  cases h with
  | takeBit b => exact takeBit_nb_le b u
  | complete | initCursor | initBits | latchLevel => simp

theorem engineTurn_nb_le {s t : State} (h : engineTurn s = .next t) : t.nb.toNat ≤ nbNext s := by
  rw [engineTurn_eq] at h
  unfold nbNext
  cases hf : s.fsm <;> rw [hf] at h <;> cases h
  case idle => exact le_rfl
  case lenchk => exact (congrArg BitVec.toNat (lenchkStep_nb s)).le
  case start => simpa using startStep_nb_le (sample s).1 (sample s).2
  case pairA => exact (congrArg BitVec.toNat (pairAStep_nb s)).le
  case pairB => simpa using (engineWrite_secondHalf (sample s).1 (sample s).2).nb_le

theorem BusEffect.nb_eq {s t : State} (h : BusEffect s t) : t.nb = s.nb := by
  cases h <;> rfl

theorem step_nb_le {s t : State} (h : step s = .next t) : t.nb.toNat ≤ nbNext s := by
  rcases step_cases h with ⟨_, _, _, _, rfl⟩ | ⟨_, _, rfl⟩ | ⟨_, _, _, _, he⟩ | ⟨_, _, he⟩ | ⟨_, he⟩
  · exact nb_le_nbNext s
  · exact Nat.zero_le _
  · rw [he.nb_eq]
    exact nb_le_nbNext s
  · exact engineTurn_nb_le (s := dropTurn s) he
  · exact engineTurn_nb_le he

/-- With entries of at most two units, the cursor has passed at most two units for each entry but the one it is in, and one
unit of that. -/
theorem unitsPassed_lt {s : State} (hc : CursorOk s) (hm : s.params.maxUnits ≤ 2) (h1 : 1 ≤ s.off.toNat) :
    unitsPassed s < 2 * s.off.toNat := by
  have hmul : s.params.maxUnits * (s.off.toNat - 1) ≤ 2 * (s.off.toNat - 1) := Nat.mul_le_mul_right _ hm
  have hused : s.used ≤ 1 := by
    rcases hc with ⟨_, hu⟩ | ⟨_, hlt, hle, _⟩ <;> omega
  unfold unitsPassed
  omega

/-- Two units a bit: the count stays below the cursor, with the bit that PAIR_B's step may add (R157). -/
theorem nbNext_lt_off {s : State} (hs : EngineOk s) (hf : s.fsm = .pairA ∨ s.fsm = .pairB)
    (hm : s.params.maxUnits ≤ 2) : InFrame s ∧ nbNext s < s.off.toNat := by
  have hpassed (hframe : InFrame s) : unitsPassed s < 2 * s.off.toNat := by
    obtain ⟨_, hc, h1, _⟩ := hframe
    exact unitsPassed_lt hc hm h1
  rcases hf with hf | hf
  · obtain ⟨hframe, hunits, _⟩ := (engineOk_pairA_iff hf).mp hs
    have hnext : nbNext s = s.nb.toNat := if_neg (by simp [hf])
    have := hpassed hframe
    exact ⟨hframe, by omega⟩
  · obtain ⟨hframe, hunits⟩ := (engineOk_pairB_iff hf).mp hs
    have hnext : nbNext s = s.nb.toNat + 1 := if_pos hf
    have := hpassed hframe
    exact ⟨hframe, by omega⟩

/-- Settles O46: the engine's invariant, kept along the run, bounds the count before and after the next step. -/
theorem bitCountStaysBelowRawlen : Obligations.BitCountStaysBelowRawlen := by
  intro k s t hf hm h hpair
  have hinv : EngineOk t := stepN_keeps (fun _ _ => step_engineOk) (engineOk_of_lenchk hf) h
  have hparams : t.params = s.params :=
    stepN_keeps (P := fun u => u.params = s.params) (fun _ _ hu hst => (step_params hst).trans hu) rfl h
  obtain ⟨⟨hacc, _, _, hend⟩, hlt⟩ := nbNext_lt_off hinv hpair (hparams ▸ hm)
  have hlen : t.rawlen.toNat < 256 := t.rawlen.isLt
  have hstrict (hs : t.lcm = .strict) : t.rawlen.toNat ≤ 48 := by
    have hnot := mt lengthRejects_iff.mpr (Bool.eq_false_iff.mp hacc)
    simp only [hs, true_and] at hnot
    omega
  have hbound {n : Nat} (hn : n ≤ nbNext t) : n + 1 ≤ t.rawlen.toNat ∧ n ≤ 254 ∧ (t.lcm = .strict → n ≤ 47) := by
    refine ⟨by omega, by omega, fun hs => ?_⟩
    have := hstrict hs
    omega
  obtain ⟨hbelow, hmax, h47⟩ := hbound (nb_le_nbNext t)
  exact ⟨hbelow, hmax, h47, fun u hu => hbound (step_nb_le hu)⟩

end Sys2Proof.Machine
end

section
/-! Proofs: what a bus transaction does, by its request word and data (spec/40_commands.md R100 to R109), and which steps
set and clear CMDERR (spec/60_exceptions.md R173). -/

namespace Sys2Proof.Machine

/-! ### A bus transaction, by its request -/

/-- The host writes that R173 lists: a reserved command, a DECODE or CLEAR while BUSY, a write to CONFIG, RAWLEN, UNIT or
TOL while BUSY. -/
def SetsCmderr (req : BitVec 9) (d : Word) (s : State) : Prop :=
  (req.toNat / 4 = 64 ∧ (3 ≤ d.toNat % 256 ∨ ((d.toNat % 256 = 1 ∨ d.toNat % 256 = 2) ∧ s.fsm ≠ .idle))) ∨
    (66 ≤ req.toNat / 4 ∧ req.toNat / 4 ≤ 69 ∧ s.fsm ≠ .idle)

/-- `BusEffect` with the requests that have each effect: request number 64 is the write to CMD, 66 to 69 are the writes to
CONFIG, RAWLEN, UNIT and TOL, and any other request is a read or changes nothing. -/
inductive RequestEffect (req : BitVec 9) (d : Word) (s : State) : State → Prop where
  | quiet (w : Word) (hcmd : req.toNat / 4 = 64 → d.toNat % 256 = 0)
      (hreg : ¬(66 ≤ req.toNat / 4 ∧ req.toNat / 4 ≤ 69)) : RequestEffect req d s { s with rdata := w }
  | dropped (h : SetsCmderr req d s) : RequestEffect req d s (setCmderr s)
  | decode (hreq : req.toNat / 4 = 64) (hop : d.toNat % 256 = 1) (hf : s.fsm = .idle) :
      RequestEffect req d s { clearResults s with fsm := .lenchk }
  | clear (hreq : req.toNat / 4 = 64) (hop : d.toNat % 256 = 2) (hf : s.fsm = .idle) :
      RequestEffect req d s { clearResults s with cmderr := false }
  | config (hreq : req.toNat / 4 = 66) (hf : s.fsm = .idle) : RequestEffect req d s (storeConfig d s)
  | rawlen (hreq : req.toNat / 4 = 67) (hf : s.fsm = .idle) : RequestEffect req d s (storeRawlen d s)
  | unit (hreq : req.toNat / 4 = 68) (hf : s.fsm = .idle) : RequestEffect req d s (storeUnit d s)
  | tol (hreq : req.toNat / 4 = 69) (hf : s.fsm = .idle) : RequestEffect req d s (storeTol d s)

/-- The opcode written to CMD is the data modulo 256 (R22). -/
theorem byteField_toNat (d : Word) : (byteField d).toNat = d.toNat % 256 :=
  BitVec.toNat_setWidth 8 d

/-- A register's word number is the one that selects it (R61). -/
theorem eq_index_of_regOfIndex {k : BitVec 6} {r : Reg} (h : regOfIndex k = some r) : k = r.index := by
  revert k
  cases r <;> decide

/-- A word number that selects no register lies past the map's end (R63). -/
theorem le_of_regOfIndex_eq_none {k : BitVec 6} (h : regOfIndex k = none) : 13 ≤ k.toNat := by
  revert k
  decide

/-- A write to CMD runs the command of its low byte, or drops it (R101 to R104). -/
theorem requestEffect_runCommand {req : BitVec 9} (hreq : req.toNat / 4 = 64) (d : Word) (s : State) :
    RequestEffect req d s (runCommand (byteField d) s) := by
  rcases runCommand_cases (byteField d) s with ⟨hop, h⟩ | ⟨hop, h⟩ | ⟨hop, h⟩ | ⟨hop, h⟩ <;> rw [h] <;>
    rw [byteField_toNat] at hop
  · exact .quiet s.rdata (fun _ => hop) (by omega)
  · rcases startDecode_cases s with ⟨hf, hs⟩ | ⟨hf, hs⟩ <;> rw [hs]
    · exact .decode hreq hop hf
    · exact .dropped (.inl ⟨hreq, .inr ⟨.inl hop, hf⟩⟩)
  · rcases acknowledge_cases s with ⟨hf, hs⟩ | ⟨hf, hs⟩ <;> rw [hs]
    · exact .clear hreq hop hf
    · exact .dropped (.inl ⟨hreq, .inr ⟨.inr hop, hf⟩⟩)
  · exact .dropped (.inl ⟨hreq, .inl hop⟩)

/-- A write to an input register, of request numbers 66 to 69, stores while IDLE and is dropped while BUSY (R105 to R108). -/
theorem requestEffect_ite_busy {req : BitVec 9} {d : Word} {s u : State} {n : Nat} (hreq : req.toNat / 4 = n)
    (hn : 66 ≤ n ∧ n ≤ 69) (h : s.fsm = .idle → RequestEffect req d s u) :
    RequestEffect req d s (if busy s then setCmderr s else u) := by
  cases hb : busy s with
  | true => exact .dropped (.inr ⟨hreq ▸ hn.1, hreq ▸ hn.2, busy_eq_true.mp hb⟩)
  | false => exact h (busy_eq_false.mp hb)

/-- A write to a mapped offset has the effect of its register (R101 to R109). -/
theorem exec_writeInstr_request {req : BitVec 9} {r : Reg} (hreq : req.toNat / 4 = 64 + r.index.toNat)
    (lo : BitVec 2) (d : Word) (s : State) :
    ∃ t, exec (writeInstr r lo d) s = .next t ∧ RequestEffect req d s t := by
  cases r with
  | cmd => exact ⟨_, rfl, requestEffect_runCommand hreq d s⟩
  | config => exact ⟨_, rfl, requestEffect_ite_busy hreq (by decide) (.config hreq)⟩
  | rawlen => exact ⟨_, rfl, requestEffect_ite_busy hreq (by decide) (.rawlen hreq)⟩
  | unit => exact ⟨_, rfl, requestEffect_ite_busy hreq (by decide) (.unit hreq)⟩
  | tol => exact ⟨_, rfl, requestEffect_ite_busy hreq (by decide) (.tol hreq)⟩
  | status | rawval | addr | command | rpt | bitcnt | proto | diag =>
    exact ⟨s, rfl, .quiet s.rdata (fun h => absurd (hreq.symm.trans h) (by decide)) (by rw [hreq]; decide)⟩

/-- Every bus transaction has its request's effect (R81). -/
theorem busTurn_request (req : BitVec 9) (d : Word) (s : State) :
    ∃ t, busTurn req d s = .next t ∧ RequestEffect req d s t := by
  rcases Nat.lt_or_ge req.toNat 256 with hr | hw
  · obtain ⟨w, h⟩ := busTurn_read hr d s
    exact ⟨_, h, .quiet w (by omega) (by omega)⟩
  · have hlt := req.isLt
    have hk : (req.extractLsb' 2 6).toNat = req.toNat / 4 % 64 := by
      simp [BitVec.extractLsb'_toNat, Nat.shiftRight_eq_div_pow]
    rw [busTurn, decode, decodeBus, (getLsbD_eight_eq_decide req).trans (decide_eq_true hw)]
    cases hx : regOfIndex (req.extractLsb' 2 6) with
    | none =>
      have hun := le_of_regOfIndex_eq_none hx
      exact ⟨s, rfl, .quiet s.rdata (by omega) (by omega)⟩
    | some r => exact exec_writeInstr_request (by rw [← eq_index_of_regOfIndex hx]; omega) _ d s

/-- A step that runs a bus transaction has its request's effect. -/
theorem step_request {s t : State} {req : BitVec 9} {d : Word} {rest : List Turn} (hi : s.inbox = .bus req d :: rest)
    (h : step s = .next t) : RequestEffect req d (dropTurn s) t := by
  obtain ⟨u, hu, he⟩ := busTurn_request req d (dropTurn s)
  obtain rfl : u = t := Host.Outcome.next.inj (hu.symm.trans ((step_cons hi).symm.trans h))
  exact he

/-! ### What a step does with CMDERR -/

/-- The engine's turn keeps what no engine write and no sample changes. -/
theorem engineTurn_keeps {α : Type} {f : State → α} (hwrite : ∀ u t, EngineWrite u t → f t = f u)
    (hsample : ∀ s, f (sample s).2 = f s) {s t : State} (h : engineTurn s = .next t) : f t = f s := by
  rcases engineTurn_cases s with ⟨_, hs⟩ | ⟨_, u, t', hu, hw, hs⟩ <;> cases hs.symm.trans h
  · rfl
  · rw [hwrite u t hw]
    rcases hu with rfl | rfl
    · rfl
    · exact hsample s

theorem engineTurn_cmderr {s t : State} (h : engineTurn s = .next t) : t.cmderr = s.cmderr :=
  engineTurn_keeps (f := State.cmderr) (fun _ _ hw => by cases hw <;> simp) sample_cmderr h

/-- A transaction is a listed write, which only sets CMDERR, or an accepted CLEAR, or it leaves CMDERR as it was. -/
theorem RequestEffect.cmderr_cases {req : BitVec 9} {d : Word} {s t : State} (h : RequestEffect req d s t) :
    (SetsCmderr req d s ∧ t = setCmderr s) ∨
    (¬SetsCmderr req d s ∧ t.cmderr = false ∧ req.toNat / 4 = 64 ∧ d.toNat % 256 = 2 ∧ s.fsm = .idle) ∨
    (¬SetsCmderr req d s ∧ t.cmderr = s.cmderr) := by
  unfold SetsCmderr
  cases h with
  | dropped h => exact .inl ⟨h, rfl⟩
  | clear hreq hop hf => exact .inr (.inl ⟨by simp [hreq, hop, hf], rfl, hreq, hop, hf⟩)
  | quiet w hcmd hreg => exact .inr (.inr ⟨by omega, rfl⟩)
  | decode hreq hop hf => exact .inr (.inr ⟨by simp [hreq, hop, hf], rfl⟩)
  | config hreq hf | rawlen hreq hf | unit hreq hf | tol hreq hf => exact .inr (.inr ⟨by simp [hreq, hf], rfl⟩)

/-- A listed write comes next. -/
def CmderrRises (s : State) : Prop :=
  ∃ req d rest, s.inbox = .bus req d :: rest ∧ SetsCmderr req d s

/-- A reset or an accepted CLEAR comes next. -/
def CmderrFalls (s : State) : Prop :=
  (∃ rest, s.inbox = .reset :: rest) ∨
    ∃ req d rest, s.inbox = .bus req d :: rest ∧ req.toNat / 4 = 64 ∧ d.toNat % 256 = 2 ∧ s.fsm = .idle

/-- What a step does with CMDERR (R173). -/
theorem step_cmderr_cases {s t : State} (h : step s = .next t) :
    (CmderrRises s ∧ t = setCmderr (dropTurn s)) ∨
    (¬CmderrRises s ∧ (t.cmderr = s.cmderr ∨ t.cmderr = false ∧ CmderrFalls s)) := by
  rcases step_cases h with ⟨_, _, _, hi, rfl⟩ | ⟨rest, hi, rfl⟩ | ⟨req, d, rest, hi, _⟩ | ⟨_, hi, he⟩ | ⟨hi, he⟩
  · exact .inr ⟨by simp [CmderrRises, hi], .inl rfl⟩
  · exact .inr ⟨by simp [CmderrRises, hi], .inr ⟨rfl, .inl ⟨rest, hi⟩⟩⟩
  · have hrises : CmderrRises s ↔ SetsCmderr req d s := by simp [CmderrRises, hi]
    rw [hrises]
    rcases (step_request hi h).cmderr_cases with ⟨hs, ht⟩ | ⟨hs, ht, hclear⟩ | ⟨hs, ht⟩
    · exact .inl ⟨hs, ht⟩
    · exact .inr ⟨hs, .inr ⟨ht, .inr ⟨req, d, rest, hi, hclear⟩⟩⟩
    · exact .inr ⟨hs, .inl ht⟩
  · exact .inr ⟨by simp [CmderrRises, hi], .inl (engineTurn_cmderr (s := dropTurn s) he)⟩
  · exact .inr ⟨by simp [CmderrRises, hi], .inl (engineTurn_cmderr he)⟩

/-- Settles O29: by what each step can do with CMDERR. -/
theorem cmderrIsSetAndClearedOnlyAsListed : Obligations.CmderrIsSetAndClearedOnlyAsListed := by
  intro s t h
  rcases step_cmderr_cases h with ⟨hrises, rfl⟩ | ⟨hnot, hkeep⟩
  · exact ⟨fun _ => ⟨iff_of_true rfl hrises, fun _ => rfl⟩, fun _ hc => absurd hc (by simp)⟩
  · refine ⟨fun hs => ?_, fun hs hc => ?_⟩
    · have ht : t.cmderr = false := hkeep.elim (·.trans hs) (·.1)
      exact ⟨iff_of_false (by simp [ht]) hnot, fun hc => absurd (ht.symm.trans hc) (by decide)⟩
    · rcases hkeep with he | ⟨_, hclear⟩
      · exact absurd (hs.symm.trans (he.symm.trans hc)) (by decide)
      · exact hclear

end Sys2Proof.Machine
end

section
/-! Proofs: which steps raise and lower `irq` (spec/60_exceptions.md R177). -/

namespace Sys2Proof.Machine

/-! ### DONE and IE on the bus -/

/-- A field placed at bit `pos` holds its bits from there up (R84). -/
theorem getLsbD_place {n : Nat} (pos : Nat) (v : BitVec n) {i : Nat} (hi : i < 32) :
    (place pos v).getLsbD i = (decide (pos ≤ i) && v.getLsbD (i - pos)) := by
  simp only [place, BitVec.getLsbD_shiftLeft, BitVec.getLsbD_setWidth]
  have hsub : i - pos < 32 := by omega
  by_cases h : pos ≤ i
  · simp [h, hi, hsub, Nat.not_lt.mpr h]
  · simp [h, Nat.not_le.mp h]

/-- Bit 1 of STATUS is DONE (R23). -/
theorem getLsbD_statusWord_one (s : State) : (statusWord s).getLsbD 1 = s.done := by
  simp only [statusWord, BitVec.getLsbD_or, getLsbD_place _ _ (show 1 < 32 by decide)]
  simp

/-- Bit 2 of CONFIG is IE (R24). -/
theorem getLsbD_configWord_two (s : State) : (configWord s).getLsbD 2 = s.ie := by
  simp only [configWord, BitVec.getLsbD_or, getLsbD_place _ _ (show 2 < 32 by decide)]
  simp

theorem ieField_eq (d : Word) : ieField d = decide (d.toNat / 4 % 2 = 1) := by
  simp [ieField, BitVec.getLsbD, Nat.testBit_eq_decide_div_mod_eq]

/-! ### What a step does with irq -/

/-- An accepted DECODE or CLEAR, or a write to CONFIG that stores IE as 0 (R177). -/
def LowersIrq (req : BitVec 9) (d : Word) (s : State) : Prop :=
  s.fsm = .idle ∧ ((req.toNat / 4 = 64 ∧ (d.toNat % 256 = 1 ∨ d.toNat % 256 = 2)) ∨
    (req.toNat / 4 = 66 ∧ d.toNat / 4 % 2 = 0))

/-- A write to CONFIG that stores IE as 1 (R177). -/
def StoresIe (req : BitVec 9) (d : Word) : Prop :=
  req.toNat / 4 = 66 ∧ d.toNat / 4 % 2 = 1

/-- A transaction lowers `irq`, or stores IE as 1 so that `irq` becomes DONE, or leaves `irq` as it was. -/
theorem RequestEffect.irq_cases {req : BitVec 9} {d : Word} {s t : State} (h : RequestEffect req d s t) :
    (LowersIrq req d s ∧ irq t = false) ∨
    (¬LowersIrq req d s ∧ (irq t = irq s ∨ (s.fsm = .idle ∧ StoresIe req d ∧ irq t = s.done))) := by
  unfold LowersIrq StoresIe
  cases h with
  | decode hreq hop hf => exact .inl ⟨⟨hf, .inl ⟨hreq, .inl hop⟩⟩, rfl⟩
  | clear hreq hop hf => exact .inl ⟨⟨hf, .inl ⟨hreq, .inr hop⟩⟩, rfl⟩
  | config hreq hf =>
    rcases Nat.mod_two_eq_zero_or_one (d.toNat / 4) with hd | hd
    · exact .inl ⟨⟨hf, .inr ⟨hreq, hd⟩⟩, by simp [irq, ieField_eq, hd]⟩
    · exact .inr ⟨by omega, .inr ⟨hf, ⟨hreq, hd⟩, by simp [irq, ieField_eq, hd]⟩⟩
  | dropped h =>
    refine .inr ⟨?_, .inl rfl⟩
    rintro ⟨hf, hl⟩
    simp only [SetsCmderr, hf, ne_eq, not_true, and_false, or_false] at h
    omega
  | quiet | rawlen | unit | tol => exact .inr ⟨by omega, .inl rfl⟩

/-- The engine's turn completes a decode, so that `irq` becomes IE, or leaves `irq` as it was (R154). -/
theorem engineTurn_irq {s t : State} (h : engineTurn s = .next t) :
    irq t = irq s ∨ (s.fsm ≠ .idle ∧ t.fsm = .idle ∧ irq t = s.ie) := by
  rcases engineTurn_cases s with ⟨_, hs⟩ | ⟨hf, u, t', hu, hw, hs⟩ <;> cases hs.symm.trans h
  · exact .inl rfl
  · have hsame : irq u = irq s ∧ u.ie = s.ie := by rcases hu with rfl | rfl <;> simp [irq]
    cases hw with
    | complete r q => exact .inr ⟨hf, by simp, by simp [irq, hsame.2]⟩
    | initCursor | initBits | latchLevel | takeBit => exact .inl hsame.1

/-- A reset or a transaction that lowers `irq` comes next. -/
def IrqFalls (s : State) : Prop :=
  (∃ rest, s.inbox = .reset :: rest) ∨ ∃ req d rest, s.inbox = .bus req d :: rest ∧ LowersIrq req d s

/-- What a step does with `irq` (R177). -/
theorem step_irq_cases {s t : State} (h : step s = .next t) :
    (IrqFalls s ∧ irq t = false) ∨
    (¬IrqFalls s ∧ (irq t = irq s ∨ (s.fsm ≠ .idle ∧ t.fsm = .idle ∧ irq t = s.ie) ∨
      (s.fsm = .idle ∧ (∃ req d rest, s.inbox = .bus req d :: rest ∧ StoresIe req d) ∧ irq t = s.done))) := by
  rcases step_cases h with ⟨_, _, _, hi, rfl⟩ | ⟨rest, hi, rfl⟩ | ⟨req, d, rest, hi, _⟩ | ⟨_, hi, he⟩ | ⟨hi, he⟩
  · exact .inr ⟨by simp [IrqFalls, hi], .inl rfl⟩
  · exact .inl ⟨.inl ⟨rest, hi⟩, rfl⟩
  · have hfalls : IrqFalls s ↔ LowersIrq req d s := by simp [IrqFalls, hi]
    rw [hfalls]
    rcases (step_request hi h).irq_cases with hl | ⟨hl, ht | ⟨hf, hie, ht⟩⟩
    · exact .inl hl
    · exact .inr ⟨hl, .inl ht⟩
    · exact .inr ⟨hl, .inr (.inr ⟨hf, ⟨req, d, rest, hi, hie⟩, ht⟩)⟩
  · exact .inr ⟨by simp [IrqFalls, hi], (engineTurn_irq (s := dropTurn s) he).imp_right .inl⟩
  · exact .inr ⟨by simp [IrqFalls, hi], (engineTurn_irq he).imp_right .inl⟩

/-- Settles O51: by what each step can do with `irq`. -/
theorem irqFollowsDoneAndIe : Obligations.IrqFollowsDoneAndIe := by
  intro s
  refine ⟨?_, fun t h => ⟨fun hs ht => ?_, fun hs => ?_⟩⟩
  · rw [readWord, readWord, getLsbD_statusWord_one, getLsbD_configWord_two, irq]
  · rcases step_irq_cases h with ⟨_, hlow⟩ | ⟨_, hkeep | ⟨hf, hi, hie⟩ | ⟨hf, ⟨req, d, rest, hi, hreq⟩, hdone⟩⟩
    · exact absurd (ht.symm.trans hlow) (by decide)
    · exact absurd (ht.symm.trans (hkeep.trans hs)) (by decide)
    · exact .inl ⟨hf, hi, hie.symm.trans ht⟩
    · have hd : s.done = true := hdone.symm.trans ht
      have hie : s.ie = false := by simpa [irq, hd] using hs
      exact .inr ⟨hd, hf, hie, req, d, rest, hi, hreq⟩
  · obtain ⟨hd, hie⟩ : s.done = true ∧ s.ie = true := by simpa [irq] using hs
    rcases step_irq_cases h with ⟨hfalls, hlow⟩ | ⟨hnot, hkeep⟩
    · exact iff_of_true hlow hfalls
    · have ht : irq t = true := by
        rcases hkeep with he | ⟨_, _, he⟩ | ⟨_, _, he⟩
        · exact he.trans hs
        · exact he.trans hie
        · exact he.trans hd
      exact iff_of_false (by simp [ht]) hnot

end Sys2Proof.Machine
end

section
/-! Proofs: DIAG_EN decides only whether DIAG is written (spec/60_exceptions.md R183). -/

namespace Sys2Proof.Machine

/-! ### Two states that differ only in DIAG_EN and DIAG -/

/-- The state with other values of DIAG_EN and of the DIAG fields. -/
def withDiag (b : Bool) (reason : Reason) (pos nbits : Count) (s : State) : State :=
  { s with diagEn := b, diagReason := reason, diagPos := pos, diagNbits := nbits }

/-- `u` has DIAG_EN at `b` and agrees with `t` on everything but DIAG and DIAG_EN. -/
def AgreesButDiag (b : Bool) (t u : State) : Prop :=
  ∃ reason pos nbits, u = withDiag b reason pos nbits t

section
variable (b : Bool) (reason : Reason) (pos nbits : Count) (s : State)

/-! ### The sampler reads neither -/

theorem capRead_withDiag (i : Nat) :
    capRead i (withDiag b reason pos nbits s) = ((capRead i s).1, withDiag b reason pos nbits (capRead i s).2) := by
  rcases capRead_cases i s with ⟨h, hr⟩ | ⟨h, hr⟩ <;> rw [hr]
  · exact if_pos (decide_eq_true h)
  · exact if_neg (by simp [backed, withDiag, h])

theorem advance_withDiag (k : Nat) :
    advance k (withDiag b reason pos nbits s) = withDiag b reason pos nbits (advance k s) := by
  rcases advance_cases k s with ⟨h, ha⟩ | ⟨h, ha⟩ <;> rw [ha]
  · exact if_pos h
  · exact if_neg (Nat.not_le.mpr h)

theorem sample_withDiag :
    sample (withDiag b reason pos nbits s) = ((sample s).1, withDiag b reason pos nbits (sample s).2) := by
  have hread := capRead_withDiag b reason pos nbits s s.off.toNat
  have hclass {o : Option Nat} (hk : classifyEntry s (capRead s.off.toNat s).1 = o) :
      classifyEntry s (capRead s.off.toNat (withDiag b reason pos nbits s)).1 = o := by
    rw [hread]
    exact hk
  rcases sample_cases s with ⟨he, h⟩ | ⟨hi, hc, hk, h⟩ | ⟨hi, hc, k, hk, h⟩ | ⟨hi, hc, h⟩ <;> rw [h]
  · exact sample_of_end he
  · refine (sample_of_unclassified (s := withDiag b reason pos nbits s) hi hc (hclass hk)).trans ?_
    exact congrArg (fun r => (Sample.error, r.2)) hread
  · refine (sample_of_classified (s := withDiag b reason pos nbits s) hi hc (hclass hk)).trans (congrArg (Prod.mk _) ?_)
    exact (congrArg (fun r => advance k r.2) hread).trans (advance_withDiag b reason pos nbits _ k)
  · refine (sample_of_midEntry (s := withDiag b reason pos nbits s) hi hc).trans (congrArg (Prod.mk _) ?_)
    exact advance_withDiag ..

/-! ### The engine's steps differ only in the DIAG writes of a completion -/

theorem complete_agrees (r : Result) (q : Reason) :
    AgreesButDiag b (complete r q s) (complete r q (withDiag b reason pos nbits s)) := by
  rw [complete_eq, complete_eq]
  exact ⟨_, _, _, rfl⟩

theorem lenchkStep_agrees : AgreesButDiag b (lenchkStep s) (lenchkStep (withDiag b reason pos nbits s)) := by
  by_cases h : lengthRejects s.rawlen.toNat s.lcm = true
  · rw [lenchkStep_of_rejects h, lenchkStep_of_rejects (s := withDiag b reason pos nbits s) h]
    exact complete_agrees ..
  · rw [lenchkStep_of_accepts h, lenchkStep_of_accepts (s := withDiag b reason pos nbits s) h]
    exact ⟨reason, pos, nbits, rfl⟩

theorem startStep_agrees (a : Sample) :
    AgreesButDiag b (startStep a s) (startStep a (withDiag b reason pos nbits s)) := by
  cases a with
  | mark => exact ⟨reason, pos, nbits, rfl⟩
  | space | error | exhausted => exact complete_agrees ..

theorem finishFrame_agrees : AgreesButDiag b (finishFrame s) (finishFrame (withDiag b reason pos nbits s)) := by
  rw [finishFrame_eq, finishFrame_eq]
  exact complete_agrees ..

theorem firstHalf_agrees (a : Sample) :
    AgreesButDiag b (firstHalf a s) (firstHalf a (withDiag b reason pos nbits s)) := by
  cases a with
  | space | mark => exact ⟨reason, pos, nbits, rfl⟩
  | error => exact complete_agrees ..
  | exhausted => exact finishFrame_agrees ..

theorem pairAStep_agrees : AgreesButDiag b (pairAStep s) (pairAStep (withDiag b reason pos nbits s)) := by
  rcases Nat.lt_or_ge s.off.toNat s.rawlen.toNat with hin | hend
  · rw [pairAStep_of_inside hin, pairAStep_of_inside (s := withDiag b reason pos nbits s) hin, sample_withDiag]
    exact firstHalf_agrees ..
  · rw [pairAStep_of_end hend, pairAStep_of_end (s := withDiag b reason pos nbits s) hend]
    exact finishFrame_agrees ..

theorem applyPair_agrees (p : PairSym) :
    AgreesButDiag b (applyPair p s) (applyPair p (withDiag b reason pos nbits s)) := by
  cases p with
  | bit0 | bit1 => exact ⟨reason, pos, nbits, rfl⟩
  | invalid => exact complete_agrees ..

theorem secondHalf_agrees (a : Sample) :
    AgreesButDiag b (secondHalf a s) (secondHalf a (withDiag b reason pos nbits s)) := by
  cases a with
  | mark | space | exhausted => exact applyPair_agrees ..
  | error => exact complete_agrees ..

end

/-- The engine takes the same step from agreeing states, and leaves agreeing states. -/
theorem engineTurn_agrees {b : Bool} {s s' : State} (h : AgreesButDiag b s s') :
    ∃ t t', engineTurn s = .next t ∧ engineTurn s' = .next t' ∧ AgreesButDiag b t t' := by
  obtain ⟨reason, pos, nbits, rfl⟩ := h
  refine ⟨_, _, engineTurn_eq s, engineTurn_eq _, ?_⟩
  rw [show (withDiag b reason pos nbits s).fsm = s.fsm from rfl, sample_withDiag]
  cases s.fsm with
  | idle => exact ⟨reason, pos, nbits, rfl⟩
  | lenchk => exact lenchkStep_agrees ..
  | start => exact startStep_agrees ..
  | pairA => exact pairAStep_agrees ..
  | pairB => exact secondHalf_agrees ..

/-! ### Runs -/

theorem engineTurn_inbox {s t : State} (h : engineTurn s = .next t) : t.inbox = s.inbox :=
  engineTurn_keeps (f := State.inbox) (fun _ _ hw => by cases hw <;> simp) sample_inbox h

theorem stepN_succ_of_step {k : Nat} {s u : State} (h : step s = .next u) : stepN (k + 1) s = stepN k u := by
  have hcore : Sys2Proof.core.step s = .next u := h
  simp only [stepN, Host.Core.run]
  rw [hcore]

/-- With nothing pending, runs of the engine from agreeing states agree at every step. -/
theorem stepN_agrees {b : Bool} (k : Nat) {s s' : State} (hi : s.inbox = []) (h : AgreesButDiag b s s') :
    ∃ t t', stepN k s = .next t ∧ stepN k s' = .next t' ∧ AgreesButDiag b t t' := by
  induction k generalizing s s' with
  | zero => exact ⟨s, s', rfl, rfl, h⟩
  | succ k ih =>
    have hi' : s'.inbox = [] := by
      obtain ⟨_, _, _, rfl⟩ := h
      exact hi
    obtain ⟨u, u', hu, hu', hagree⟩ := engineTurn_agrees h
    rw [stepN_succ_of_step ((step_nil hi).trans hu), stepN_succ_of_step ((step_nil hi').trans hu')]
    exact ih ((engineTurn_inbox hu).trans hi) hagree

/-- Settles O57: the state with DIAG_EN at `b` agrees with the given one, and so do their runs. -/
theorem diagEnableChangesOnlyDiag : Obligations.DiagEnableChangesOnlyDiag := by
  intro k s b hi
  obtain ⟨t, u, ht, hu, reason, pos, nbits, rfl⟩ :=
    stepN_agrees (s' := { s with diagEn := b }) k hi ⟨s.diagReason, s.diagPos, s.diagNbits, rfl⟩
  exact ⟨t, _, ht, hu, rfl⟩

end Sys2Proof.Machine
end

section
/-! Proofs: what a reset clears (spec/70_reset_and_hazards.md R190; spec/10_state.md R50). -/

namespace Sys2Proof.Machine

/-- A pending reset is run by the next step, whatever the engine is doing (R190). -/
theorem step_reset {s : State} {rest : List Turn} (h : s.inbox = .reset :: rest) :
    step s = .next (resetMdec (dropTurn s)) :=
  step_cons h

/-- No register's word is read from a field that a reset keeps. -/
@[simp] theorem readWord_resetMdec (r : Reg) (s : State) : readWord r (resetMdec s) = readWord r State.reset := by
  cases r <;> rfl

/-- Every register reads 0 after reset (R50). -/
@[simp] theorem readWord_reset (r : Reg) : readWord r State.reset = 0 := by
  cases r <;> decide

/-- `irq` is low after a reset, which takes DONE away (R177). -/
@[simp] theorem irq_resetMdec (s : State) : irq (resetMdec s) = false := rfl

/-- Settles O1: the step is the reset itself, whose fields are those of `State.reset` but for the platform's. -/
theorem resetClearsEverythingButCapture : Obligations.ResetClearsEverythingButCapture := by
  intro s rest hi
  refine ⟨resetMdec (dropTurn s), step_reset hi, fun r => ?_, irq_resetMdec _, ?_⟩
  · rw [readWord_resetMdec, readWord_reset]
  · simp [State.reset]

end Sys2Proof.Machine
end

section
/-! Proofs: decoding and encoding agree, and every word selects one row or is named as none (spec/30_encoding.md R80 to
R92). -/

namespace Sys2Proof.Machine

/-! ### The fields of a bus word -/

/-- A request word by its bits: the two low offset bits, the word number, the direction (R80). -/
theorem getLsbD_busWord (write : Bool) (r : Reg) (lo : BitVec 2) (i : Nat) :
    (busWord write r lo).getLsbD i = if i < 2 then lo.getLsbD i
      else if i - 2 < 6 then r.index.getLsbD (i - 2) else (BitVec.ofBool write).getLsbD (i - 2 - 6) := by
  refine BitVec.getLsbD_append.trans ?_
  rw [BitVec.getLsbD_append]

theorem extractLsb'_index_busWord (write : Bool) (r : Reg) (lo : BitVec 2) :
    (busWord write r lo).extractLsb' 2 6 = r.index := by
  refine BitVec.eq_of_getLsbD_eq fun i hi => ?_
  have hi2 : ¬2 + i < 2 := Nat.not_lt.mpr (Nat.le_add_right 2 i)
  simp [-BitVec.getLsbD_eq_getElem, BitVec.getLsbD_extractLsb', getLsbD_busWord, hi, hi2]

theorem getLsbD_eight_busWord (write : Bool) (r : Reg) (lo : BitVec 2) :
    (busWord write r lo).getLsbD 8 = write := by
  rw [getLsbD_busWord]
  simp

theorem extractLsb'_low_busWord (write : Bool) (r : Reg) (lo : BitVec 2) :
    (busWord write r lo).extractLsb' 0 2 = lo := by
  refine BitVec.eq_of_getLsbD_eq fun i hi => ?_
  simp [-BitVec.getLsbD_eq_getElem, BitVec.getLsbD_extractLsb', getLsbD_busWord, hi]

/-- A request is the bus word of its three fields (R80). -/
theorem busWord_of_fields {req : BitVec 9} {r : Reg} (h : req.extractLsb' 2 6 = r.index) :
    busWord (req.getLsbD 8) r (req.extractLsb' 0 2) = req := by
  refine BitVec.eq_of_getLsbD_eq fun i hi => ?_
  rw [getLsbD_busWord, ← h]
  simp only [BitVec.getLsbD_extractLsb', BitVec.getLsbD_ofBool]
  split_ifs with h2 h6
  · simp [h2]
  · simp [h6, show 2 + (i - 2) = i by omega]
  · simp [show i = 8 by omega]

/-- A request at a mapped offset is the bus word of a register (R61). -/
theorem exists_busWord_of_mapped {req : BitVec 9} (h : req.toNat % 256 < 0x34) :
    ∃ write r lo, req = busWord write r lo := by
  have hk : (req.extractLsb' 2 6).toNat = req.toNat / 4 % 64 := by
    simp [BitVec.extractLsb'_toNat, Nat.shiftRight_eq_div_pow]
  cases hr : regOfIndex (req.extractLsb' 2 6) with
  | none =>
    have := le_of_regOfIndex_eq_none hr
    omega
  | some r => exact ⟨_, r, _, (busWord_of_fields (eq_index_of_regOfIndex hr)).symm⟩

@[simp] theorem regOfIndex_index (r : Reg) : regOfIndex r.index = some r := by
  cases r <;> rfl

theorem decode_busWord (write : Bool) (r : Reg) (lo : BitVec 2) (d : Word) :
    decode (.bus (busWord write r lo) d) = .instr (if write then writeInstr r lo d else readInstr r lo) := by
  rw [decode, decodeBus, extractLsb'_index_busWord, regOfIndex_index, getLsbD_eight_busWord, extractLsb'_low_busWord]
  cases write <;> rfl

theorem encode_readInstr (r : Reg) (lo : BitVec 2) : encode (readInstr r lo) = .bus (busWord false r lo) 0 := by
  cases r <;> rfl

theorem encode_writeInstr (r : Reg) (lo : BitVec 2) (d : Word) :
    encode (writeInstr r lo d) = .bus (busWord true r lo) d := by
  cases r <;> rfl

theorem wellFormed_readInstr (r : Reg) (lo : BitVec 2) : wellFormed (readInstr r lo) = true := by
  cases r <;> rfl

theorem wellFormed_writeInstr (r : Reg) (lo : BitVec 2) (d : Word) : wellFormed (writeInstr r lo d) = true := by
  cases r <;> rfl

/-! ### Commands -/

/-- The table of commands: the row of each range of opcodes (R83). -/
inductive CommandRow (op : BitVec 8) : Instr → Prop where
  | nop (h : op.toNat = 0) : CommandRow op .nop
  | decode (h : op.toNat = 1) : CommandRow op .decode
  | clear (h : op.toNat = 2) : CommandRow op .clear
  | reserved03 (h : op.toNat = 3) : CommandRow op .reserved03
  | reserved04 (h : opIn 0x04 0x07 op = true) : CommandRow op (.reserved04 op)
  | reserved08 (h : opIn 0x08 0x0F op = true) : CommandRow op (.reserved08 op)
  | reserved10 (h : opIn 0x10 0x1F op = true) : CommandRow op (.reserved10 op)
  | reserved20 (h : opIn 0x20 0x3F op = true) : CommandRow op (.reserved20 op)
  | reserved40 (h : opIn 0x40 0x7F op = true) : CommandRow op (.reserved40 op)
  | reserved80 (h : opIn 0x80 0xFF op = true) : CommandRow op (.reserved80 op)

theorem opIn_iff {lo hi : Nat} {op : BitVec 8} : opIn lo hi op = true ↔ lo ≤ op.toNat ∧ op.toNat ≤ hi := by
  simp [opIn]

theorem commandRow_decodeCmd (op : BitVec 8) : CommandRow op (decodeCmd op) := by
  have hlt := op.isLt
  unfold decodeCmd
  split_ifs
  · exact .nop ‹_›
  · exact .decode ‹_›
  · exact .clear ‹_›
  · exact .reserved03 ‹_›
  · exact .reserved04 (opIn_iff.mpr (by omega))
  · exact .reserved08 (opIn_iff.mpr (by omega))
  · exact .reserved10 (opIn_iff.mpr (by omega))
  · exact .reserved20 (opIn_iff.mpr (by omega))
  · exact .reserved40 (opIn_iff.mpr (by omega))
  · exact .reserved80 (opIn_iff.mpr (by omega))

/-- The ranges of the table share no opcode, so that a row of an opcode is the one it decodes to. -/
theorem CommandRow.eq_decodeCmd {op : BitVec 8} {i : Instr} (h : CommandRow op i) : decodeCmd op = i := by
  cases h with
  | nop h | decode h | clear h | reserved03 h => simp (disch := omega) only [decodeCmd, if_pos, if_neg]
  | reserved04 h | reserved08 h | reserved10 h | reserved20 h | reserved40 h | reserved80 h =>
    rw [opIn_iff] at h
    simp (disch := omega) only [decodeCmd, if_pos, if_neg]

/-- The row of an opcode is well formed and encodes to it. -/
theorem CommandRow.encode_eq {op : BitVec 8} {i : Instr} (h : CommandRow op i) :
    wellFormed i = true ∧ encode i = .cmd op := by
  cases h with
  | nop h | decode h | clear h | reserved03 h => exact ⟨rfl, congrArg Encoded.cmd (BitVec.eq_of_toNat_eq h.symm)⟩
  | reserved04 h | reserved08 h | reserved10 h | reserved20 h | reserved40 h | reserved80 h => exact ⟨h, rfl⟩

/-! ### Engine states and pairs -/

@[simp] theorem fsmOfCode_code (f : Fsm) : fsmOfCode f.code = some f := by
  cases f <;> rfl

theorem eq_code_of_fsmOfCode {c : BitVec 3} {f : Fsm} (h : fsmOfCode c = some f) : c = f.code := by
  revert c
  cases f <;> decide

theorem decode_fsm_code (f : Fsm) : decode (.fsm f.code) = .instr (engineInstr f) := by
  simp [decode, decodeFsm]

theorem encode_engineInstr (f : Fsm) : encode (engineInstr f) = .fsm f.code := by
  cases f <;> rfl

theorem wellFormed_engineInstr (f : Fsm) : wellFormed (engineInstr f) = true := by
  cases f <;> rfl

theorem decode_pair (a : Level) (b : Sample) : decode (.pair (a.toSample.code ++ b.code)) = .instr (pairInstr a b) := by
  cases a <;> cases b <;> rfl

theorem encode_pairInstr (a : Level) (b : Sample) : encode (pairInstr a b) = .pair (a.toSample.code ++ b.code) := by
  cases a <;> cases b <;> rfl

theorem wellFormed_pairInstr (a : Level) (b : Sample) : wellFormed (pairInstr a b) = true := by
  cases a <;> cases b <;> rfl

/-- The first sample of a pair word selects no row from code 2 up (R88). -/
theorem decode_pair_of_no_level {w : BitVec 4} (h : 8 ≤ w.toNat) : decode (.pair w) = .noRow .firstSampleNoLevel := by
  revert w
  decide

/-- A pair word below 8 is that of a level and a sample (R89). -/
theorem exists_pair_of_lt {w : BitVec 4} (h : w.toNat < 8) :
    ∃ (a : Level) (b : Sample), w = a.toSample.code ++ b.code := by
  refine ⟨if w.getLsbD 2 then .mark else .space, sampleOfCode (w.extractLsb' 0 2), ?_⟩
  revert w
  decide

/-- The codes of the two levels are 0 and 1 (R88). -/
theorem exists_level_of_le {a : BitVec 2} (h : a.toNat ≤ 1) : ∃ l : Level, a = l.toSample.code := by
  refine ⟨if a = 1 then .mark else .space, ?_⟩
  revert a
  decide

/-- Settles O8: a bus row by the fields of its word, a command by its row's range, a state and a pair by their codes. -/
theorem decodeOfEncodeGivesTheInstruction : Obligations.DecodeOfEncodeGivesTheInstruction := by
  intro i h
  cases i with
  | rdCmd lo | rdStatus lo | rdConfig lo | rdRawlen lo | rdUnit lo | rdTol lo | rdRawval lo | rdAddr lo | rdCommand lo
  | rdRepeat lo | rdBitcnt lo | rdProto lo | rdDiag lo => exact decode_busWord false _ lo 0
  | wrCmd lo d | wrConfig lo d | wrRawlen lo d | wrUnit lo d | wrTol lo d | wrRoStatus lo d | wrRoRawval lo d
  | wrRoAddr lo d | wrRoCommand lo d | wrRoRepeat lo d | wrRoBitcnt lo d | wrRoProto lo d | wrRoDiag lo d =>
    exact decode_busWord true _ lo d
  | nop | decode | clear | reserved03 => rfl
  | reserved04 => exact congrArg Decoded.instr (CommandRow.reserved04 h).eq_decodeCmd
  | reserved08 => exact congrArg Decoded.instr (CommandRow.reserved08 h).eq_decodeCmd
  | reserved10 => exact congrArg Decoded.instr (CommandRow.reserved10 h).eq_decodeCmd
  | reserved20 => exact congrArg Decoded.instr (CommandRow.reserved20 h).eq_decodeCmd
  | reserved40 => exact congrArg Decoded.instr (CommandRow.reserved40 h).eq_decodeCmd
  | reserved80 => exact congrArg Decoded.instr (CommandRow.reserved80 h).eq_decodeCmd
  | fsmIdle | fsmLenchk | fsmStart | fsmPairA | fsmPairB => exact decode_fsm_code _
  | pairBit0 | pairBit1 | pairBit1Tail | pairInvalidMM | pairInvalidSS | pairInvalidSTail => rfl
  | pairSamplerError a =>
    obtain ⟨l, rfl⟩ := exists_level_of_le (of_decide_eq_true h)
    cases l <;> rfl
  | capw => rfl

/-- Settles O9: by the format, from the row each word of it selects. -/
theorem encodeOfDecodeGivesTheWord : Obligations.EncodeOfDecodeGivesTheWord := by
  intro e i h
  cases e with
  | bus req d =>
    rcases Nat.lt_or_ge (req.toNat % 256) 0x34 with hlt | hge
    · obtain ⟨write, r, lo, rfl⟩ := exists_busWord_of_mapped hlt
      cases (decode_busWord write r lo d).symm.trans h
      simp only [getLsbD_eight_busWord]
      cases write
      · exact ⟨wellFormed_readInstr r lo, encode_readInstr r lo⟩
      · exact ⟨wellFormed_writeInstr r lo d, encode_writeInstr r lo d⟩
    · cases (decodeBus_unmapped hge d).symm.trans h
  | cmd op =>
    cases h
    exact (commandRow_decodeCmd op).encode_eq
  | fsm c =>
    simp only [decode, decodeFsm] at h
    cases hf : fsmOfCode c with
    | none => rw [hf] at h; cases h
    | some f =>
      rw [hf] at h
      cases h
      rw [eq_code_of_fsmOfCode hf]
      exact ⟨wellFormed_engineInstr f, encode_engineInstr f⟩
  | pair w =>
    rcases Nat.lt_or_ge w.toNat 8 with hlt | hge
    · obtain ⟨a, b, rfl⟩ := exists_pair_of_lt hlt
      cases (decode_pair a b).symm.trans h
      exact ⟨wellFormed_pairInstr a b, encode_pairInstr a b⟩
    · cases (decode_pair_of_no_level hge).symm.trans h
  | cap k v =>
    cases h
    exact ⟨rfl, rfl⟩

/-- Settles O10: by the format, a mapped and an unmapped offset, the opcodes, the codes and the pairs. -/
theorem everyWordSelectsOneRow : Obligations.EveryWordSelectsOneRow := by
  refine ⟨fun req d => ⟨fun h => ?_, fun h => decodeBus_unmapped h d⟩, fun op => ⟨fun h => ?_, fun h => ?_, fun h => ?_,
    fun h => ⟨decodeCmd op, rfl, ?_⟩⟩, decode_fsm_code, by decide, decode_pair, fun w => decode_pair_of_no_level⟩
  · obtain ⟨write, r, lo, hreq⟩ := exists_busWord_of_mapped h
    have hindex : r.index.toNat = req.toNat / 4 % 64 := by
      rw [← extractLsb'_index_busWord write r lo, ← hreq, BitVec.extractLsb'_toNat, Nat.shiftRight_eq_div_pow]
    have hlo : lo = BitVec.ofNat 2 req.toNat := by
      rw [← extractLsb'_low_busWord write r lo, ← hreq, BitVec.extractLsb', Nat.shiftRight_zero]
    have hwrite : write = decide (256 ≤ req.toNat) := by
      rw [← getLsbD_eight_eq_decide, hreq, getLsbD_eight_busWord]
    have hdec := decode_busWord write r lo d
    rw [← hreq, hlo, hwrite] at hdec
    exact ⟨r, by omega, by simpa only [decide_eq_true_eq] using hdec⟩
  · exact congrArg Decoded.instr (CommandRow.nop h).eq_decodeCmd
  · exact congrArg Decoded.instr (CommandRow.decode h).eq_decodeCmd
  · exact congrArg Decoded.instr (CommandRow.clear h).eq_decodeCmd
  · have hrow := commandRow_decodeCmd op
    generalize decodeCmd op = i at hrow ⊢
    cases hrow with
    | nop h0 | decode h0 | clear h0 => omega
    | reserved03 | reserved04 | reserved08 | reserved10 | reserved20 | reserved40 | reserved80 => simp

/-- Settles O11: each word by evaluation of the decoder. -/
theorem wordsWrittenFromTheSpecDecode : Obligations.WordsWrittenFromTheSpecDecode := by
  refine ⟨?_, ?_, ?_, ?_, ?_, ?_, ?_⟩ <;> rfl

end Sys2Proof.Machine
end

section
/-! Proofs: what every step keeps (spec/00_scope.md R17; spec/10_state.md R26, R27, R48; spec/20_memory.md R74): the
platform, the registers the engine does not write, and the room and form of what is stored. -/

namespace Sys2Proof.Machine

/-! ### What the engine leaves alone -/

/-- The host's and the platform's side of the state, the engine's own fields blanked: what no engine step writes
(R65, R154). -/
def hostSide (s : State) : State :=
  { State.reset with
    cmderr := s.cmderr, lcm := s.lcm, diagEn := s.diagEn, ie := s.ie, rawlen := s.rawlen, unit := s.unit, tol := s.tol,
    params := s.params, cap := s.cap, unbacked := s.unbacked, rdata := s.rdata, inbox := s.inbox }

theorem EngineWrite.hostSide_eq {u t : State} (h : EngineWrite u t) : hostSide t = hostSide u := by
  cases h <;> simp [hostSide]

theorem hostSide_sample (s : State) : hostSide (sample s).2 = hostSide s := by
  simp [hostSide]

theorem hostSide_eq {s t : State} (h : hostSide t = hostSide s) :
    t.cmderr = s.cmderr ∧ t.lcm = s.lcm ∧ t.diagEn = s.diagEn ∧ t.ie = s.ie ∧ t.rawlen = s.rawlen ∧ t.unit = s.unit ∧
      t.tol = s.tol ∧ t.params = s.params ∧ t.cap = s.cap ∧ t.unbacked = s.unbacked ∧ t.rdata = s.rdata ∧
      t.inbox = s.inbox := by
  simpa [hostSide] using h

/-- An engine's turn leaves the host's side as it was (R154). -/
theorem engineTurn_hostSide {s t : State} (h : engineTurn s = .next t) : hostSide t = hostSide s :=
  engineTurn_keeps (fun _ _ => EngineWrite.hostSide_eq) hostSide_sample h

/-- An engine's step, pending or with nothing pending, is the engine's turn with that turn taken. -/
theorem step_engine {s : State} (hi : s.inbox = [] ∨ ∃ rest, s.inbox = .engine :: rest) :
    step s = engineTurn (dropTurn s) := by
  rcases hi with hi | ⟨rest, hi⟩
  · have hdrop : dropTurn s = s := by
      rw [dropTurn, hi, List.tail_nil, ← hi]
    rw [step_nil hi, hdrop]
  · rw [step_cons hi, runTurn]

/-- Settles O49: the fields named are the host's side, the inbox with its turn taken. -/
theorem engineStepsLeaveTheHostsRegisters : Obligations.EngineStepsLeaveTheHostsRegisters := by
  intro s t hi h
  obtain ⟨hcmderr, hlcm, hdiagEn, hie, hrawlen, hunit, htol, _, hcap, hunbacked, hrdata, hinbox⟩ :=
    hostSide_eq (engineTurn_hostSide ((step_engine hi).symm.trans h))
  exact ⟨hcmderr, hlcm, hdiagEn, hie, hrawlen, hunit, htol, hcap, hunbacked, hrdata, hinbox⟩

/-! ### What a step is, with the two engine's turns as one -/

/-- `step_cases` with the engine's two turns as one (R14). -/
theorem step_turns {s t : State} (h : step s = .next t) :
    (∃ k v rest, s.inbox = .capw k v :: rest ∧ t = storeCap k v (dropTurn s)) ∨
    (∃ rest, s.inbox = .reset :: rest ∧ t = resetMdec (dropTurn s)) ∨
    (∃ req d rest, s.inbox = .bus req d :: rest ∧ RequestEffect req d (dropTurn s) t) ∨
    engineTurn (dropTurn s) = .next t := by
  rcases step_cases h with hc | hr | ⟨req, d, rest, hi, _⟩ | ⟨rest, hi, _⟩ | ⟨hi, _⟩
  · exact .inl hc
  · exact .inr (.inl hr)
  · exact .inr (.inr (.inl ⟨req, d, rest, hi, step_request hi h⟩))
  · exact .inr (.inr (.inr ((step_engine (.inr ⟨rest, hi⟩)).symm.trans h)))
  · exact .inr (.inr (.inr ((step_engine (.inl hi)).symm.trans h)))

/-- Settles O33: a capture write, a reset and a bus transaction keep both fields, and so does the engine. -/
theorem stepKeepsThePlatform : Obligations.StepKeepsThePlatform := by
  intro s t h
  refine ⟨step_params h, ?_⟩
  rcases step_turns h with ⟨_, _, _, _, rfl⟩ | ⟨_, _, rfl⟩ | ⟨_, _, _, _, he⟩ | he
  · rfl
  · rfl
  · cases he <;> rfl
  · obtain ⟨_, _, _, _, _, _, _, _, _, hunbacked, _, _⟩ := hostSide_eq (engineTurn_hostSide he)
    exact hunbacked

/-- Settles O35: the capture agent alone writes the memory, and its write keeps the form. -/
theorem stepKeepsCaptureForm : Obligations.StepKeepsCaptureForm := by
  intro s t hs h
  rcases step_turns h with ⟨k, v, _, _, rfl⟩ | ⟨_, _, rfl⟩ | ⟨_, _, _, _, he⟩ | he
  · exact storeCap_wf k v _ hs
  · exact hs
  · have hcap : t.cap = s.cap := by cases he <;> rfl
    rwa [hcap]
  · rwa [engineTurn_cap he]

/-! ### Durations -/

theorem durationsFit_storeCap {s : State} (hs : DurationsFit s) (k : Count) (v : Nat) :
    DurationsFit (storeCap k v s) := by
  obtain ⟨hunit, htol, hcap⟩ := hs
  refine ⟨hunit, htol, fun p hp => ?_⟩
  rcases Memory.mem_write hp with rfl | hold
  · exact lowBits_lt _ v
  · exact hcap p hold

theorem durationsFit_resetMdec {s : State} (hs : DurationsFit s) : DurationsFit (resetMdec s) := by
  obtain ⟨_, _, hcap⟩ := hs
  exact ⟨Nat.two_pow_pos _, Nat.two_pow_pos _, hcap⟩

theorem durField_lt (p : Params) (d : Word) : (durField p d).toNat < 2 ^ p.durW := by
  rw [durField_toNat]
  exact lowBits_lt _ _

theorem RequestEffect.durationsFit {req : BitVec 9} {d : Word} {s t : State} (h : RequestEffect req d s t)
    (hs : DurationsFit s) : DurationsFit t := by
  obtain ⟨hunit, htol, hcap⟩ := hs
  cases h with
  | unit => exact ⟨durField_lt _ d, htol, hcap⟩
  | tol => exact ⟨hunit, durField_lt _ d, hcap⟩
  | quiet | dropped | decode | clear | config | rawlen => exact ⟨hunit, htol, hcap⟩

/-- The stored durations are the host's side, so that `DurationsFit` is a fact about it. -/
theorem durationsFit_hostSide (s : State) : DurationsFit (hostSide s) ↔ DurationsFit s := Iff.rfl

/-- Settles O34: a stored duration is cut to `DUR_W` bits, and the engine stores none. -/
theorem stepKeepsDurationsWithinTheirWidth : Obligations.StepKeepsDurationsWithinTheirWidth := by
  intro s t hs h
  rcases step_turns h with ⟨k, v, _, _, rfl⟩ | ⟨_, _, rfl⟩ | ⟨_, _, _, _, he⟩ | he
  · exact durationsFit_storeCap (s := dropTurn s) hs k v
  · exact durationsFit_resetMdec (s := dropTurn s) hs
  · exact he.durationsFit hs
  · rw [← durationsFit_hostSide, engineTurn_hostSide he]
    exact hs

/-! ### Inputs while BUSY -/

/-- Settles O47: no transaction of a BUSY machine stores a register, and the engine writes none of the inputs. -/
theorem inputsAreFrozenWhileBusy : Obligations.InputsAreFrozenWhileBusy := by
  intro s t hf hreset h
  rcases step_turns h with ⟨_, _, _, _, rfl⟩ | ⟨rest, hi, _⟩ | ⟨_, _, _, _, he⟩ | he
  · simp
  · exact absurd hi (hreset rest)
  · cases he with
    | quiet | dropped => simp
    | decode _ _ hi | clear _ _ hi | config _ hi | rawlen _ hi | unit _ hi | tol _ hi => exact absurd hi hf
  · obtain ⟨_, hlcm, hdiagEn, hie, hrawlen, hunit, htol, _⟩ := hostSide_eq (engineTurn_hostSide he)
    exact ⟨hrawlen, hunit, htol, hlcm, hdiagEn, hie⟩

end Sys2Proof.Machine
end

section
/-! Proofs: the results of a decode, from its completion to its acknowledgement (spec/10_state.md R35;
spec/20_memory.md R76; spec/60_exceptions.md R178, R179), and the invariants of the engine and of the reset state. -/

namespace Sys2Proof.Machine

/-! ### Results -/

/-- No result stands in the registers: what DECODE and CLEAR leave, and what holds while a decode runs (R102, R103). -/
def NoResult (s : State) : Prop :=
  s.done = false ∧ s.result = .none ∧ s.rawval = 0 ∧ s.diagReason = .none ∧ s.diagPos = 0 ∧ s.diagNbits = 0

theorem resultsOk_of_noResult {s : State} (h : NoResult s) : ResultsOk s := by
  obtain ⟨hd, hr, hv, hq, hp, hn⟩ := h
  exact ⟨fun _ => hv, by simp [DiagMatchesResult, hq], by simp [hd, hr], fun _ => ⟨hd, hq, hp, hn⟩⟩

theorem noResult_of_busy {s : State} (h : ResultsOk s) (hf : s.fsm ≠ .idle) : NoResult s := by
  obtain ⟨hall, _, hdone, hbusy⟩ := h
  obtain ⟨hd, hq, hp, hn⟩ := hbusy hf
  have hr : s.result = .none := by
    by_contra hne
    exact absurd (hd.symm.trans (hdone.mpr hne)) (by decide)
  exact ⟨hd, hr, hall (by simp [hr]), hq, hp, hn⟩

theorem noResult_sample {s : State} (h : NoResult s) : NoResult (sample s).2 := by
  simpa [NoResult] using h

/-- The outcomes a decode can end with, each with the reasons it goes with (R86, R154). -/
inductive Ending : Result → Reason → Prop where
  | success : Ending .success .none
  | rejected : Ending .rejected .length
  | start : Ending .malformed .start
  | sampler : Ending .malformed .sampler
  | pair : Ending .malformed .pair
  | bitcount : Ending .malformed .bitcount

/-- A completion leaves one finished decode, with DIAG as its outcome says or cleared (R154). -/
theorem resultsOk_complete {s : State} (h : NoResult s) {r : Result} {q : Reason} (he : Ending r q) :
    ResultsOk (complete r q s) := by
  obtain ⟨_, _, _, hq, _, _⟩ := h
  have hreason : (complete r q s).diagReason = if s.diagEn then q else .none := by
    rw [complete_eq, hq]
  refine ⟨fun hr => if_neg hr, ?_, ?_, fun hf => absurd rfl hf⟩
  · unfold DiagMatchesResult
    rw [hreason]
    cases he <;> cases s.diagEn <;> trivial
  · cases he <;> simp

/-! ### Results at each step of the engine -/

section
variable {s : State} (h : NoResult s)
include h

theorem resultsOk_lenchkStep : ResultsOk (lenchkStep s) := by
  rcases lenchkStep_cases s with ⟨_, hs⟩ | ⟨_, hs⟩ <;> rw [hs]
  · exact resultsOk_complete h .rejected
  · exact resultsOk_of_noResult h

theorem resultsOk_startStep (b : Sample) : ResultsOk (startStep b s) := by
  cases b with
  | mark => exact resultsOk_of_noResult h
  | space | exhausted => exact resultsOk_complete h .start
  | error => exact resultsOk_complete h .sampler

theorem resultsOk_finishFrame : ResultsOk (finishFrame s) := by
  rcases finishFrame_cases s with ⟨_, hs⟩ | ⟨_, hs⟩ <;> rw [hs]
  · exact resultsOk_complete h .success
  · exact resultsOk_complete h .bitcount

theorem resultsOk_firstHalf (a : Sample) : ResultsOk (firstHalf a s) := by
  cases a with
  | space | mark => exact resultsOk_of_noResult h
  | error => exact resultsOk_complete h .sampler
  | exhausted => exact resultsOk_finishFrame h

theorem resultsOk_pairAStep : ResultsOk (pairAStep s) := by
  rcases Nat.lt_or_ge s.off.toNat s.rawlen.toNat with hin | hend
  · rw [pairAStep_of_inside hin]
    exact resultsOk_firstHalf (noResult_sample h) _
  · rw [pairAStep_of_end hend]
    exact resultsOk_finishFrame h

theorem resultsOk_applyPair (a b : Level) : ResultsOk (applyPair (pairDecode a b) s) := by
  rcases applyPair_cases a b s with ⟨_, hs⟩ | ⟨_, hs⟩ <;> rw [hs]
  · exact resultsOk_of_noResult h
  · exact resultsOk_complete h .pair

theorem resultsOk_secondHalf (b : Sample) : ResultsOk (secondHalf b s) := by
  cases b with
  | mark => exact resultsOk_applyPair h _ .mark
  | space | exhausted => exact resultsOk_applyPair h _ .space
  | error => exact resultsOk_complete h .sampler

end

theorem engineTurn_resultsOk {s t : State} (hs : ResultsOk s) (h : engineTurn s = .next t) : ResultsOk t := by
  rw [engineTurn_eq] at h
  cases hf : s.fsm <;> rw [hf] at h <;> cases h
  case idle => exact hs
  all_goals have hno : NoResult s := noResult_of_busy hs (by simp [hf])
  case lenchk => exact resultsOk_lenchkStep hno
  case start => exact resultsOk_startStep (noResult_sample hno) _
  case pairA => exact resultsOk_pairAStep hno
  case pairB => exact resultsOk_secondHalf (noResult_sample hno) _

/-- A transaction clears the results or touches none of them (R102, R103). -/
theorem RequestEffect.resultsOk {req : BitVec 9} {d : Word} {s t : State} (h : RequestEffect req d s t)
    (hs : ResultsOk s) : ResultsOk t := by
  cases h with
  | decode | clear => exact resultsOk_of_noResult ⟨rfl, rfl, rfl, rfl, rfl, rfl⟩
  | quiet | dropped | config | rawlen | unit | tol => exact hs

/-- Settles O44: with no result while a decode runs, the engine's completions leave one, and an acknowledgement none. -/
theorem stepKeepsResultsConsistent : Obligations.StepKeepsResultsConsistent := by
  intro s t hs h
  rcases step_turns h with ⟨_, _, _, _, rfl⟩ | ⟨_, _, rfl⟩ | ⟨_, _, _, _, he⟩ | he
  · exact hs
  · exact resultsOk_of_noResult ⟨rfl, rfl, rfl, rfl, rfl, rfl⟩
  · exact he.resultsOk hs
  · exact engineTurn_resultsOk (s := dropTurn s) hs he

/-- A reset or an accepted DECODE or CLEAR comes next: what takes a finished result away (R179). -/
def Acknowledges (s : State) : Prop :=
  (∃ rest, s.inbox = .reset :: rest) ∨
    ∃ req d rest, s.inbox = .bus req d :: rest ∧ req.toNat / 4 = 64 ∧ (d.toNat % 256 = 1 ∨ d.toNat % 256 = 2)

/-- The step leaves the results, and an IDLE engine, as they were. -/
def KeepsResult (s t : State) : Prop :=
  t.done = s.done ∧ t.result = s.result ∧ t.rawval = s.rawval ∧ t.diagReason = s.diagReason ∧ t.diagPos = s.diagPos ∧
    t.diagNbits = s.diagNbits ∧ t.fsm = s.fsm

theorem KeepsResult.refl (s : State) : KeepsResult s s := ⟨rfl, rfl, rfl, rfl, rfl, rfl, rfl⟩

/-- While IDLE a transaction acknowledges the result, or leaves it as it was (R76, R179). -/
theorem RequestEffect.result_cases {req : BitVec 9} {d : Word} {s t : State} (h : RequestEffect req d s t)
    (hf : s.fsm = .idle) :
    ((req.toNat / 4 = 64 ∧ (d.toNat % 256 = 1 ∨ d.toNat % 256 = 2)) ∧ NoResult t) ∨
    (¬(req.toNat / 4 = 64 ∧ (d.toNat % 256 = 1 ∨ d.toNat % 256 = 2)) ∧ KeepsResult s t) := by
  cases h with
  | decode hreq hop => exact .inl ⟨⟨hreq, .inl hop⟩, rfl, rfl, rfl, rfl, rfl, rfl⟩
  | clear hreq hop => exact .inl ⟨⟨hreq, .inr hop⟩, rfl, rfl, rfl, rfl, rfl, rfl⟩
  | dropped h =>
    simp only [SetsCmderr, hf, ne_eq, not_true, and_false, or_false] at h
    exact .inr ⟨by omega, .refl s⟩
  | quiet | config | rawlen | unit | tol => exact .inr ⟨by omega, .refl s⟩

/-- While IDLE a step acknowledges the result, or leaves it as it was (R76, R179). -/
theorem step_result_cases {s t : State} (hf : s.fsm = .idle) (h : step s = .next t) :
    (Acknowledges s ∧ NoResult t) ∨ (¬Acknowledges s ∧ KeepsResult s t) := by
  rcases step_cases h with ⟨_, _, _, hi, rfl⟩ | ⟨rest, hi, rfl⟩ | ⟨req, d, rest, hi, _⟩ | ⟨_, hi, he⟩ | ⟨hi, he⟩
  · exact .inr ⟨by simp [Acknowledges, hi], .refl s⟩
  · exact .inl ⟨.inl ⟨rest, hi⟩, rfl, rfl, rfl, rfl, rfl, rfl⟩
  · have hack : Acknowledges s ↔ req.toNat / 4 = 64 ∧ (d.toNat % 256 = 1 ∨ d.toNat % 256 = 2) := by
      simp [Acknowledges, hi]
    rw [hack]
    exact (step_request hi h).result_cases hf
  · rw [engineTurn_eq, dropTurn_fsm, hf] at he
    cases he
    exact .inr ⟨by simp [Acknowledges, hi], .refl s⟩
  · rw [engineTurn_eq, hf] at he
    cases he
    exact .inr ⟨by simp [Acknowledges, hi], .refl s⟩

/-- Settles O50: by whether the step acknowledges the result. -/
theorem finishedResultsStayUntilAcknowledged : Obligations.FinishedResultsStayUntilAcknowledged := by
  intro s t hf hd h
  rcases step_result_cases hf h with ⟨hack, hno⟩ | ⟨hnot, hdone, hr, hv, hq, hp, hn, hidle⟩
  · refine ⟨fun hreset hcmd => ?_, fun _ => hno⟩
    rcases hack with ⟨rest, hi⟩ | ⟨req, d, rest, hi, hreq, hop⟩
    · exact absurd hi (hreset rest)
    · obtain ⟨h1, h2⟩ := hcmd req d rest hi hreq
      exact absurd hop (not_or.mpr ⟨h1, h2⟩)
  · exact ⟨fun _ _ => ⟨hdone.trans hd, hr, hv, hq, hp, hn, hidle.trans hf⟩, fun hack => absurd hack hnot⟩

/-! ### The engine's invariant, and the machine after reset -/

/-- Settles O45: the engine's invariant is kept by the engine's steps and touched by no other. -/
theorem stepKeepsCursorAndBitCountInBounds : Obligations.StepKeepsCursorAndBitCountInBounds :=
  fun _ _ => step_engineOk

/-- Settles O2: the step is the reset, which keeps the platform's own fields. -/
theorem resetKeepsThePlatformsOwnFields : Obligations.ResetKeepsThePlatformsOwnFields := by
  intro s rest hi
  exact ⟨resetMdec (dropTurn s), step_reset hi, rfl, rfl, rfl, rfl, by simp [hi]⟩

/-- Settles O3: nothing is stored, no result stands and the engine is IDLE. -/
theorem resetMeetsEveryInvariant : Obligations.ResetMeetsEveryInvariant := by
  have hfit : DurationsFit State.reset := ⟨Nat.two_pow_pos _, Nat.two_pow_pos _, by simp [State.reset]⟩
  exact ⟨reset_wf, hfit, resultsOk_of_noResult ⟨rfl, rfl, rfl, rfl, rfl, rfl⟩, engineOk_of_idle rfl⟩

end Sys2Proof.Machine
end

section
/-! Proofs: which turn a step runs and which instruction the turn decodes to (spec/00_scope.md R14; spec/20_memory.md
R62, R68; spec/60_exceptions.md R170). -/

namespace Sys2Proof.Machine

/-- No instruction stops MDEC (R170). -/
theorem exec_total (i : Instr) (s : State) : ∃ t, exec i s = .next t := by
  cases i <;> exact ⟨_, rfl⟩

/-- Settles O6: each row's meaning is a next state. -/
theorem everyInstructionAnswersANextState : Obligations.EveryInstructionAnswersANextState := exec_total

/-- A turn that is no narrow access goes on. -/
theorem runTurn_total {turn : Turn} (h : ∀ req lane, turn ≠ .narrow req lane) (s : State) :
    ∃ t, runTurn turn s = .next t := by
  cases turn with
  | bus req d =>
    obtain ⟨t, ht, _⟩ := busTurn_effect req d s
    exact ⟨t, ht⟩
  | capw | reset => exact ⟨_, rfl⟩
  | engine => exact exec_total _ s
  | narrow req lane => exact absurd rfl (h req lane)

/-- Settles O7: by the turn that is pending, if any. -/
theorem stepStopsOnlyAtNarrowAccess : Obligations.StepStopsOnlyAtNarrowAccess := by
  refine ⟨fun s hne => ?_, fun s req lane rest hi => step_cons hi⟩
  cases hi : s.inbox with
  | nil =>
    rw [step_nil hi]
    exact exec_total _ s
  | cons turn rest =>
    rw [step_cons hi]
    exact runTurn_total (fun req lane heq => hne req lane rest (heq ▸ hi)) _

/-- A bus transaction that selects a row runs it (R81). -/
theorem busTurn_of_decode {req : BitVec 9} {d : Word} {i : Instr} (h : decode (.bus req d) = .instr i) (s : State) :
    busTurn req d s = exec i s := by
  rw [busTurn, h]

/-- The engine's turn runs the row of its state's code (R80, R140). -/
theorem engineTurn_of_decode {s : State} {i : Instr} (h : decode (.fsm s.fsm.code) = .instr i) :
    engineTurn s = exec i s := by
  rw [decode_fsm_code] at h
  cases h
  rfl

/-- Settles O4: by the turn, from what each runs. -/
theorem stepRunsTheDecodedInstruction : Obligations.StepRunsTheDecodedInstruction := by
  refine ⟨fun s req d rest i hi hd => ?_, fun s k v rest i hi hd => ?_, fun s rest i hi hd => ?_, fun s i hi hd => ?_⟩
  · rw [step_cons hi, dropTurn_of_inbox hi]
    exact busTurn_of_decode hd _
  · cases hd
    rw [step_cons hi, dropTurn_of_inbox hi, runTurn]
  · rw [step_cons hi, dropTurn_of_inbox hi]
    exact engineTurn_of_decode (s := { s with inbox := rest }) hd
  · rw [step_nil hi]
    exact engineTurn_of_decode hd

/-! ### The two low bits of an offset -/

/-- A write's meaning does not depend on the two low offset bits (R62). -/
theorem exec_writeInstr_low (r : Reg) (lo lo' : BitVec 2) (d : Word) (s : State) :
    exec (writeInstr r lo d) s = exec (writeInstr r lo' d) s := by
  cases r <;> rfl

/-- Two requests that differ only in offset bits [1:0] make the same transaction (R62). -/
theorem busTurn_low {req req' : BitVec 9} (h : req.toNat / 4 = req'.toNat / 4) (d : Word) (s : State) :
    busTurn req d s = busTurn req' d s := by
  have hindex : req.extractLsb' 2 6 = req'.extractLsb' 2 6 := by
    refine BitVec.eq_of_toNat_eq ?_
    simp only [BitVec.extractLsb'_toNat, Nat.shiftRight_eq_div_pow]
    omega
  have hwrite : req.getLsbD 8 = req'.getLsbD 8 := by
    rw [getLsbD_eight_eq_decide, getLsbD_eight_eq_decide, decide_eq_decide]
    omega
  rw [busTurn, busTurn, decode, decode, decodeBus, decodeBus, hindex, hwrite]
  cases regOfIndex (req'.extractLsb' 2 6) with
  | none => rfl
  | some r =>
    cases req'.getLsbD 8
    · exact (exec_readInstr r _ s).trans (exec_readInstr r _ s).symm
    · exact exec_writeInstr_low r _ _ d s

/-- Settles O12: the step is the transaction, which depends on the word number and the direction. -/
theorem offsetLowBitsAreIgnored : Obligations.OffsetLowBitsAreIgnored := by
  intro s req req' d rest hi h
  rw [step_cons hi, step_cons (s := { s with inbox := .bus req' d :: rest }) rfl, dropTurn_of_inbox hi]
  exact busTurn_low h d _

end Sys2Proof.Machine
end

section
/-! Proofs: the words a read returns, field by field, and what a write of an input register stores
(spec/10_state.md R22 to R36; spec/40_commands.md R100, R105 to R108). -/

namespace Sys2Proof.Machine

/-! ### Fields of a register word as numbers -/

theorem place_toNat {n pos : Nat} (h : pos + n ≤ 32) (v : BitVec n) : (place pos v).toNat = 2 ^ pos * v.toNat := by
  have hlt : 2 ^ pos * v.toNat < 2 ^ 32 := by
    calc 2 ^ pos * v.toNat < 2 ^ pos * 2 ^ n := Nat.mul_lt_mul_of_pos_left v.isLt (Nat.two_pow_pos pos)
      _ = 2 ^ (pos + n) := (Nat.pow_add 2 pos n).symm
      _ ≤ 2 ^ 32 := Nat.pow_le_pow_right (by decide) h
  rw [place, BitVec.toNat_shiftLeft, BitVec.toNat_setWidth_of_le (by omega), Nat.shiftLeft_eq, Nat.mul_comm,
    Nat.mod_eq_of_lt hlt]

/-- A field placed above all bits of a word adds its value there (R84). -/
theorem or_place_toNat {n pos a : Nat} {w : Word} (hw : w.toNat = a) (ha : a < 2 ^ pos) (h : pos + n ≤ 32)
    (v : BitVec n) : (w ||| place pos v).toNat = a + 2 ^ pos * v.toNat := by
  subst hw
  rw [BitVec.toNat_or, place_toNat h, Nat.or_comm, ← Nat.two_pow_add_eq_or_of_lt ha, Nat.add_comm]

theorem toNat_ofBool_lt (b : Bool) : (BitVec.ofBool b).toNat < 2 := (BitVec.ofBool b).isLt

/-- STATUS as a number: BUSY, DONE, RESULT and CMDERR from bits 0, 1, 2 and 4 (R23). -/
theorem statusWord_toNat (s : State) :
    (statusWord s).toNat = (busy s).toNat + 2 * s.done.toNat + 4 * s.result.code.toNat + 16 * s.cmderr.toNat := by
  have hb := toNat_ofBool_lt (busy s)
  have hd := toNat_ofBool_lt s.done
  have hr := s.result.code.isLt
  have h0 := place_zero_toNat (by decide) (BitVec.ofBool (busy s))
  have h1 := or_place_toNat (pos := 1) h0 (by omega) (by decide) (BitVec.ofBool s.done)
  have h2 := or_place_toNat (pos := 2) h1 (by omega) (by decide) s.result.code
  have h3 := or_place_toNat (pos := 4) h2 (by omega) (by decide) (BitVec.ofBool s.cmderr)
  simp only [BitVec.toNat_ofBool] at h3
  exact h3

/-- CONFIG as a number: LCM, DIAG_EN and IE from bits 0, 1 and 2 (R24). -/
theorem configWord_toNat (s : State) :
    (configWord s).toNat = s.lcm.bit.toNat + 2 * s.diagEn.toNat + 4 * s.ie.toNat := by
  have hl := toNat_ofBool_lt s.lcm.bit
  have hd := toNat_ofBool_lt s.diagEn
  have h0 := place_zero_toNat (by decide) (BitVec.ofBool s.lcm.bit)
  have h1 := or_place_toNat (pos := 1) h0 (by omega) (by decide) (BitVec.ofBool s.diagEn)
  have h2 := or_place_toNat (pos := 2) h1 (by omega) (by decide) (BitVec.ofBool s.ie)
  simp only [BitVec.toNat_ofBool] at h2
  exact h2

/-- DIAG as a number: REASON, POS and NBITS from bits 0, 8 and 16 (R34). -/
theorem diagWord_toNat (s : State) :
    (diagWord s).toNat = s.diagReason.code.toNat + 2 ^ 8 * s.diagPos.toNat + 2 ^ 16 * s.diagNbits.toNat := by
  have hr := s.diagReason.code.isLt
  have hp := s.diagPos.isLt
  have h0 := place_zero_toNat (by decide) s.diagReason.code
  have h1 := or_place_toNat (pos := 8) h0 (by omega) (by decide) s.diagPos
  exact or_place_toNat (pos := 16) h1 (by omega) (by decide) s.diagNbits

theorem busy_toNat (s : State) : (busy s).toNat = if s.fsm = .idle then 0 else 1 := by
  cases h : s.fsm <;> simp [busy, h]

theorem lenMode_bit_toNat (m : LenMode) : m.bit.toNat = if m = .permissive then 1 else 0 := by
  cases m <;> rfl

/-! ### Reads -/

/-- Settles O14: the word of STATUS is the sum of its fields at their bits. -/
theorem readStatusPlacesItsFields : Obligations.ReadStatusPlacesItsFields := by
  intro lo s
  refine ⟨statusWord s, exec_readInstr .status lo s, ?_⟩
  rw [statusWord_toNat, busy_toNat]
  cases s.done <;> cases s.result <;> cases s.cmderr <;> rfl

/-- Settles O15: CMD has no storage, CONFIG is the sum of its fields, and the others are the words stored. -/
theorem readInputRegistersReturnTheirFields : Obligations.ReadInputRegistersReturnTheirFields := by
  intro lo s
  refine ⟨exec_readInstr .cmd lo s, ⟨configWord s, exec_readInstr .config lo s, ?_⟩,
    ⟨_, exec_readInstr .rawlen lo s, place_zero_toNat (by decide) s.rawlen⟩,
    ⟨_, exec_readInstr .unit lo s, rfl⟩, ⟨_, exec_readInstr .tol lo s, rfl⟩⟩
  rw [configWord_toNat, lenMode_bit_toNat]
  cases s.diagEn <;> cases s.ie <;> rfl

/-- Settles O18: the word of DIAG is the sum of its fields at their bits. -/
theorem readDiagPlacesItsFields : Obligations.ReadDiagPlacesItsFields := by
  intro lo s
  refine ⟨diagWord s, exec_readInstr .diag lo s, ?_⟩
  rw [diagWord_toNat]
  cases s.diagReason <;> rfl

/-- Settles O20: RAWVAL is 0 and the other five registers are views of RAWVAL or of RESULT. -/
theorem noSuccessReadsAllResultsZero : Obligations.NoSuccessReadsAllResultsZero := by
  intro s hall hr r hmem
  have hv : s.rawval = 0 := hall hr
  cases r with
  | rawval | addr | command | rpt => rw [readWord, hv]; rfl
  | bitcnt | proto => exact if_neg hr
  | cmd | status | config | rawlen | unit | tol | diag => exact absurd hmem (by decide)

/-! ### Writes -/

theorem lcmField_eq (d : Word) : lcmField d = if d.toNat % 2 = 1 then .permissive else .strict := by
  simp [lcmField, lenModeOfBit, BitVec.getLsbD, Nat.testBit_eq_decide_div_mod_eq]

theorem diagEnField_eq (d : Word) : diagEnField d = decide (d.toNat / 2 % 2 = 1) := by
  simp [diagEnField, BitVec.getLsbD, Nat.testBit_eq_decide_div_mod_eq]

section
variable (lo : BitVec 2) (d : Word) {s : State}

/-! A write of an input register while IDLE (R105 to R108). -/

theorem exec_wrConfig_of_idle (h : s.fsm = .idle) : exec (.wrConfig lo d) s = .next (storeConfig d s) :=
  congrArg Host.Outcome.next (if_neg (by simp [busy, h]))

theorem exec_wrRawlen_of_idle (h : s.fsm = .idle) : exec (.wrRawlen lo d) s = .next (storeRawlen d s) :=
  congrArg Host.Outcome.next (if_neg (by simp [busy, h]))

theorem exec_wrUnit_of_idle (h : s.fsm = .idle) : exec (.wrUnit lo d) s = .next (storeUnit d s) :=
  congrArg Host.Outcome.next (if_neg (by simp [busy, h]))

theorem exec_wrTol_of_idle (h : s.fsm = .idle) : exec (.wrTol lo d) s = .next (storeTol d s) :=
  congrArg Host.Outcome.next (if_neg (by simp [busy, h]))

end

/-- Settles O21: while IDLE each row stores, and each field is the named bits of the data. -/
theorem idleWritesStoreTheirFields : Obligations.IdleWritesStoreTheirFields := by
  intro lo d s hf
  rw [exec_wrConfig_of_idle lo d hf, exec_wrRawlen_of_idle lo d hf, exec_wrUnit_of_idle lo d hf,
    exec_wrTol_of_idle lo d hf, ← lcmField_eq, ← diagEnField_eq, ← ieField_eq, BitVec.ofNat_toNat]
  exact ⟨rfl, rfl, rfl, rfl⟩

/-- Settles O22: each of the four rows is the write of an input register, dropped while BUSY. -/
theorem busyWritesOnlySetCmderr : Obligations.BusyWritesOnlySetCmderr := by
  intro lo d s hf
  have hdrop (r : Reg) (hr : r ∈ [Reg.config, .rawlen, .unit, .tol]) :
      exec (writeInstr r lo d) s = .next { s with cmderr := true } :=
    exec_writeInstr_input_of_busy hr lo d hf
  exact ⟨hdrop .config (by decide), hdrop .rawlen (by decide), hdrop .unit (by decide), hdrop .tol (by decide)⟩

/-- CONFIG reads back bits 2 to 0 of the data (R24, R36). -/
theorem configWord_storeConfig (d : Word) (s : State) : configWord (storeConfig d s) = d &&& 0x7 := by
  have hmask : (d &&& 0x7).toNat = d.toNat % 2 ^ 3 := by
    rw [BitVec.toNat_and]
    exact Nat.and_two_pow_sub_one_eq_mod d.toNat 3
  refine BitVec.eq_of_toNat_eq ?_
  have hlcm : (lcmField d).bit = d.getLsbD 0 := by
    rw [lcmField]
    cases d.getLsbD 0 <;> rfl
  rw [configWord_toNat, hmask, storeConfig_lcm, storeConfig_diagEn, storeConfig_ie, hlcm, diagEnField, ieField]
  simp only [BitVec.getLsbD, Nat.toNat_testBit]
  omega

/-- RAWLEN reads back bits 7 to 0 of the data (R25, R36). -/
theorem place_byteField (d : Word) : place 0 (byteField d) = d &&& 0xFF := by
  refine BitVec.eq_of_toNat_eq ?_
  rw [place_zero_toNat (by decide), byteField_toNat, BitVec.toNat_and]
  exact (Nat.and_two_pow_sub_one_eq_mod d.toNat 8).symm

/-- Settles O23: while IDLE each write stores, and each register's word is made of the fields stored. -/
theorem readAfterWriteDropsReservedBits : Obligations.ReadAfterWriteDropsReservedBits := by
  intro lo d s hf
  exact ⟨⟨_, exec_wrConfig_of_idle lo d hf, configWord_storeConfig d s⟩,
    ⟨_, exec_wrRawlen_of_idle lo d hf, place_byteField d⟩,
    ⟨_, exec_wrUnit_of_idle lo d hf, durField_toNat s.params d⟩,
    ⟨_, exec_wrTol_of_idle lo d hf, durField_toNat s.params d⟩⟩

end Sys2Proof.Machine
end

section
/-! Proofs: one capture entry written and read back (spec/40_commands.md R110; spec/20_memory.md R64, R72). -/

namespace Sys2Proof.Machine

theorem exec_capw (k : Count) (v : Nat) (s : State) : exec (.capw k v) s = .next (storeCap k v s) := rfl

/-- Settles O30: by the laws of the memory's write. -/
theorem captureWriteChangesOneEntry : Obligations.CaptureWriteChangesOneEntry := by
  intro k v s
  exact ⟨(storeCap k v s).cap, exec_capw k v s, Memory.lookup_write_self _ _ s.cap,
    fun j hj => Memory.lookup_write_ne hj _ s.cap, storeCap_wf k v s⟩

/-- What a backed entry holds after a capture write (R64, R110). -/
theorem capEntry_storeCap (j : Nat) (k : Count) (v : Nat) (s : State) :
    capEntry j (storeCap k v s) = if j = k.toNat then v % 2 ^ s.params.durW else capEntry j s := by
  unfold capEntry
  rw [storeCap_cap, storeCap_params]
  by_cases hj : j = k.toNat
  · rw [if_pos hj, hj, Memory.lookup_write_self, lowBits]
  · rw [if_neg hj, Memory.lookup_write_ne hj]

theorem capRead_of_backed {i : Nat} {s : State} (h : i ∉ s.unbacked) : capRead i s = (capEntry i s, s) :=
  if_pos (decide_eq_true h)

theorem capRead_of_unbacked {i : Nat} {s : State} (h : i ∈ s.unbacked) :
    capRead i s = (lowBits s.params.durW (Config.capDraw s.draws), { s with draws := s.draws + 1 }) :=
  if_neg (by simp [backed, h])

theorem capEntry_of_unwritten {j : Nat} {s : State} (h : Memory.lookup j s.cap = none) :
    capEntry j s = lowBits s.params.durW (Config.capPowerUp j) := by
  rw [capEntry, h]

/-- Settles O31: by whether the platform backs the entry. -/
theorem captureReadReturnsTheEntryOrADraw : Obligations.CaptureReadReturnsTheEntryOrADraw := by
  intro k v j s t h
  obtain rfl : storeCap k v s = t := Host.Outcome.next.inj h
  refine ⟨fun hb => ?_, fun hu => capRead_of_unbacked (s := storeCap k v s) hu, capEntry_of_unwritten⟩
  rw [capRead_of_backed (s := storeCap k v s) hb, capEntry_storeCap]

end Sys2Proof.Machine
end

section
/-! Proofs: what START and PAIR_B do with their sample (spec/42_bit_assembly.md R143, R145 to R147), and a table word
placed for the next step (notes/assumptions/8.md). -/

namespace Sys2Proof.Machine

/-! ### START -/

theorem exec_fsmStart (s : State) : exec .fsmStart s = .next (startStep (sample s).1 (sample s).2) := rfl

theorem startStep_of_not_mark {b : Sample} (h : b ≠ .mark) (s : State) :
    startStep b s = complete .malformed (if b = .error then .sampler else .start) s := by
  cases b with
  | mark => exact absurd rfl h
  | space | error | exhausted => rfl

/-- Settles O39: START's step is that of its sample, and the sample keeps what a completion reads. -/
theorem startConsumesTheStartMark : Obligations.StartConsumesTheStartMark := by
  intro s u b hs
  obtain ⟨rfl, rfl⟩ : (sample s).1 = b ∧ (sample s).2 = u := by simp [hs]
  refine ⟨fun hb => ?_, fun hb => ?_⟩ <;> rw [exec_fsmStart]
  · rw [hb]
    rfl
  · rw [startStep_of_not_mark hb, complete_eq, bitsDecoded_eq]
    simp

/-! ### PAIR_B -/

theorem exec_fsmPairB (s : State) : exec .fsmPairB s = .next (secondHalf (sample s).1 (sample s).2) := rfl

/-- PAIR_B does with its second sample what the row of the pair does (R145). -/
theorem exec_pairInstr (b : Sample) (s : State) : exec (pairInstr s.lvlA b) s = .next (secondHalf b s) := by
  cases hl : s.lvlA <;> cases b <;> simp only [secondHalf, hl] <;> rfl

/-- Settles O41: the sample keeps the level latched, and the row is that of the level and the sample. -/
theorem pairBRunsTheRowOfItsPair : Obligations.PairBRunsTheRowOfItsPair := by
  intro s u b i hs hi
  obtain ⟨rfl, rfl⟩ : (sample s).1 = b ∧ (sample s).2 = u := by simp [hs]
  cases (decode_pair s.lvlA (sample s).1).symm.trans hi
  refine ⟨_, exec_fsmPairB s, ?_⟩
  rw [← exec_pairInstr, sample_lvlA]

/-- A bit appended is the value doubled plus the bit, modulo 2^23 (R147). -/
theorem accumulate_eq (b : Bool) (s : State) :
    accumulate b s = { s with
      acc := BitVec.ofNat 23 (2 * s.acc.toNat + b.toNat), nb := BitVec.ofNat 8 (s.nb.toNat + 1) } := by
  have hacc : s.acc <<< 1 ||| (BitVec.ofBool b).setWidth 23 = BitVec.ofNat 23 (2 * s.acc.toNat + b.toNat) := by
    have hb : b.toNat < 2 ^ 1 := Bool.toNat_lt b
    have heven : s.acc.toNat * 2 ^ 1 % 2 ^ 23 = 2 ^ 1 * (s.acc.toNat % 2 ^ 22) := by omega
    refine BitVec.eq_of_toNat_eq ?_
    rw [BitVec.toNat_or, BitVec.toNat_shiftLeft, BitVec.toNat_setWidth_of_le (by decide), BitVec.toNat_ofBool,
      BitVec.toNat_ofNat, Nat.shiftLeft_eq, heven, ← Nat.two_pow_add_eq_or_of_lt hb]
    omega
  have hnb : s.nb + 1 = BitVec.ofNat 8 (s.nb.toNat + 1) := by simp [BitVec.ofNat_add]
  rw [accumulate, hacc, hnb]

/-- Settles O42: the three rows take the bit of their pair. -/
theorem validPairsAppendTheirBit : Obligations.ValidPairsAppendTheirBit := by
  intro s
  have hbit (b : Bool) : takeBit b s = { s with
      acc := BitVec.ofNat 23 (2 * s.acc.toNat + b.toNat), nb := BitVec.ofNat 8 (s.nb.toNat + 1), fsm := .pairA } := by
    rw [takeBit, accumulate_eq]
  exact ⟨congrArg Host.Outcome.next (hbit false), congrArg Host.Outcome.next (hbit true),
    congrArg Host.Outcome.next (hbit true)⟩

/-- Settles O43: each of the four rows completes the decode MALFORMED with its reason. -/
theorem invalidPairsEndMalformed : Obligations.InvalidPairsEndMalformed := by
  intro s a i hi
  have hcomplete : exec i s = .next (complete .malformed (if i = .pairSamplerError a then .sampler else .pair) s) := by
    simp only [List.mem_cons, List.not_mem_nil, or_false] at hi
    rcases hi with rfl | rfl | rfl | rfl
    case inr.inr.inr => rw [if_pos rfl]; rfl
    all_goals rw [if_neg (by simp)]; rfl
  rw [hcomplete, complete_eq, bitsDecoded_eq]
  simp

/-! ### A table word placed for the next step -/

/-- Of the widths of the table, four bits alone give a pair word. -/
theorem tableWord_pair_iff {nbits w : Nat} {e : Encoded} (h : tableWord nbits w = some e) :
    nbits = 4 ↔ ∃ p, e = .pair p := by
  unfold tableWord at h
  split_ifs at h <;> cases h <;> simp <;> omega

/-- Entry 3 of a staged ERROR is 1, which lies in no window at unit and tolerance 0. -/
theorem classifyEntry_stagePair_error (a : Level) (s : State) :
    classifyEntry (stagePair a .error s) (capRead 3 (stagePair a .error s)).1 = none := by
  have hentry : capEntry 3 (stagePair a .error s) = 1 := by
    rw [capEntry, stagePair, Memory.lookup_write_self]
  rw [capRead_of_backed (List.not_mem_nil), hentry]
  exact classify_eq_none_iff.mpr fun j _ _ => by simp [windowMatch_iff, stagePair]

/-- The next sample of a staged pair is the one asked for. -/
theorem sample_stagePair (a : Level) (b : Sample) (s : State) : (sample (stagePair a b s)).1 = b := by
  cases b with
  | mark =>
    rw [sample_of_midEntry (s := stagePair a .mark s) (show 3 < 4 by decide) (show 2 ≠ 0 by decide), levelAt_toSample]
    exact if_pos (show 3 % 2 = 1 by decide)
  | space =>
    rw [sample_of_midEntry (s := stagePair a .space s) (show 2 < 4 by decide) (show 2 ≠ 0 by decide), levelAt_toSample]
    exact if_neg (show ¬2 % 2 = 1 by decide)
  | exhausted => rfl
  | error =>
    exact congrArg Prod.fst (sample_of_unclassified (s := stagePair a .error s) (show 3 < 4 by decide) rfl
      (classifyEntry_stagePair_error a s))

theorem dropTurn_pushTurn (t : Turn) (s : State) : dropTurn (pushTurn t s) = s := rfl

/-- A turn put before all others is the one the next step runs. -/
theorem step_pushTurn (t : Turn) (s : State) : step (pushTurn t s) = runTurn t s :=
  step_cons rfl

/-- A command placed as a write to CMD runs the command's row (R82). -/
theorem busTurn_placed_cmd (op : BitVec 8) (s : State) :
    busTurn (busWord true .cmd 0) (op.setWidth 32) s = exec (decodeCmd op) s := by
  have hop : BitVec.ofNat 8 (op.setWidth 32).toNat = op := by
    rw [BitVec.toNat_setWidth_of_le (by decide), BitVec.ofNat_toNat, BitVec.setWidth_eq]
  refine (busTurn_of_decode (decode_busWord true .cmd 0 _) s).trans ((exec_wrCmd 0 _ s).trans ?_)
  rw [hop, exec_decodeCmd]

/-- A placed word that is no pair word is run by the next step, on the state with its turn taken. -/
theorem step_placeEncoded {e : Encoded} {i : Instr} (he : ¬∃ p, e = .pair p) (h : decode e = .instr i) (s : State) :
    step (placeEncoded e s) = exec i (dropTurn (placeEncoded e s)) := by
  cases e with
  | bus req d =>
    rw [placeEncoded, step_pushTurn, dropTurn_pushTurn]
    exact busTurn_of_decode h s
  | cmd op =>
    cases h
    rw [placeEncoded, step_pushTurn, dropTurn_pushTurn]
    exact busTurn_placed_cmd op s
  | fsm c =>
    rw [decode, decodeFsm] at h
    cases hf : fsmOfCode c <;> rw [hf] at h <;> cases h
    rw [placeEncoded, hf]
    exact step_pushTurn _ _
  | pair p => exact absurd ⟨p, rfl⟩ he
  | cap k v =>
    cases h
    rw [placeEncoded, step_pushTurn, dropTurn_pushTurn, runTurn]

/-- A placed pair word is run by PAIR_B, after its second sample. -/
theorem step_placeEncoded_pair {p : BitVec 4} {i : Instr} (h : decode (.pair p) = .instr i) (s : State) :
    step (placeEncoded (.pair p) s) = exec i (sample (dropTurn (placeEncoded (.pair p) s))).2 := by
  rcases Nat.lt_or_ge p.toNat 8 with hlt | hge
  · obtain ⟨a, b, rfl⟩ := exists_pair_of_lt hlt
    cases (decode_pair a b).symm.trans h
    have hplace : placeEncoded (.pair (a.toSample.code ++ b.code)) s = pushTurn .engine (stagePair a b s) := by
      cases a <;> cases b <;> rfl
    have hturn : engineTurn (stagePair a b s) = exec .fsmPairB (stagePair a b s) := by cases b <;> rfl
    have hlevel : (sample (stagePair a b s)).2.lvlA = a := by
      rw [sample_lvlA]
      cases b <;> rfl
    rw [hplace, step_pushTurn, dropTurn_pushTurn, runTurn, hturn, exec_fsmPairB, ← exec_pairInstr, hlevel,
      sample_stagePair]
  · cases (decode_pair_of_no_level hge).symm.trans h

theorem eq_instr_of_toOption {d : Decoded} {i : Instr} (h : d.toOption = some i) : d = .instr i := by
  cases d <;> cases h
  rfl

/-- Settles O5: by whether the word is a pair word. -/
theorem placedTableWordRunsNext : Obligations.PlacedTableWordRunsNext := by
  intro s nbits w i h
  rw [State.withFetchWord, placeTableWord]
  rw [decodeTableWord] at h
  cases he : tableWord nbits w with
  | none => rw [he] at h; cases h
  | some e =>
    rw [he] at h
    have hdec : decode e = .instr i := eq_instr_of_toOption h
    have hwidth := tableWord_pair_iff he
    refine ⟨fun hne => step_placeEncoded (hwidth.not.mp hne) hdec s, fun heq => ?_⟩
    obtain ⟨p, rfl⟩ := hwidth.mp heq
    exact step_placeEncoded_pair hdec s

end Sys2Proof.Machine
end

section
/-! Proofs: how long a decode runs, and how often it reads the capture memory (spec/20_memory.md R66, R67;
spec/70_reset_and_hazards.md R200, R205). -/

namespace Sys2Proof.Machine

/-! ### One move of a running decode -/

/-- What the engine does in each of its states: it ends the decode, or goes on as its sample says (R142 to R145). -/
inductive Move (s : State) : State → Prop where
  | ends (r : Result) (q : Reason) : Move s (complete r q s)
  | fails (r : Result) (q : Reason) (hf : s.fsm = .start ∨ s.fsm = .pairA ∨ s.fsm = .pairB) :
      Move s (complete r q (sample s).2)
  | accepts (hf : s.fsm = .lenchk) (hacc : lengthRejects s.rawlen.toNat s.lcm = false) : Move s (initCursor s)
  | starts (hf : s.fsm = .start) (hs : (sample s).1 = Level.mark.toSample) : Move s (initBits (sample s).2)
  | latches (a : Level) (hf : s.fsm = .pairA) (hs : (sample s).1 = a.toSample) : Move s (latchLevel a (sample s).2)
  | takes (b : Bool) (hf : s.fsm = .pairB) (hs : (sample s).1 ≠ .error) : Move s (takeBit b (sample s).2)

theorem move_lenchkStep {s : State} (hf : s.fsm = .lenchk) : Move s (lenchkStep s) := by
  rcases lenchkStep_cases s with ⟨_, h⟩ | ⟨hacc, h⟩ <;> rw [h]
  · exact .ends _ _
  · exact .accepts hf hacc

theorem move_startStep {s : State} (hf : s.fsm = .start) : Move s (startStep (sample s).1 (sample s).2) := by
  cases hs : (sample s).1 with
  | mark => exact .starts hf hs
  | space | error | exhausted => exact .fails _ _ (.inl hf)

theorem move_pairAStep {s : State} (hf : s.fsm = .pairA) : Move s (pairAStep s) := by
  rcases Nat.lt_or_ge s.off.toNat s.rawlen.toNat with hin | hend
  · rw [pairAStep_of_inside hin]
    cases hs : (sample s).1 with
    | space => exact .latches .space hf hs
    | mark => exact .latches .mark hf hs
    | error => exact .fails _ _ (.inr (.inl hf))
    | exhausted => exact absurd hs (sample_ne_exhausted hin)
  · rw [pairAStep_of_end hend, finishFrame_eq]
    exact .ends _ _

theorem move_applyPair {s : State} (hf : s.fsm = .pairB) (hs : (sample s).1 ≠ .error) (a b : Level) :
    Move s (applyPair (pairDecode a b) (sample s).2) := by
  rcases applyPair_cases a b (sample s).2 with ⟨_, h⟩ | ⟨_, h⟩ <;> rw [h]
  · exact .takes _ hf hs
  · exact .fails _ _ (.inr (.inr hf))

theorem move_secondHalf {s : State} (hf : s.fsm = .pairB) : Move s (secondHalf (sample s).1 (sample s).2) := by
  cases hs : (sample s).1 with
  | mark => exact move_applyPair hf (by simp [hs]) _ .mark
  | space | exhausted => exact move_applyPair hf (by simp [hs]) _ .space
  | error => exact .fails _ _ (.inr (.inr hf))

/-- The turn of a BUSY engine is a move. -/
theorem engineTurn_move {s : State} (hf : s.fsm ≠ .idle) : ∃ t, engineTurn s = .next t ∧ Move s t := by
  refine ⟨_, engineTurn_eq s, ?_⟩
  cases hq : s.fsm with
  | idle => exact absurd hq hf
  | lenchk => exact move_lenchkStep hq
  | start => exact move_startStep hq
  | pairA => exact move_pairAStep hq
  | pairB => exact move_secondHalf hq

/-- With nothing pending a step of a BUSY machine is a move, after which nothing is pending. -/
theorem step_move {s : State} (hi : s.inbox = []) (hf : s.fsm ≠ .idle) :
    ∃ t, step s = .next t ∧ Move s t ∧ t.inbox = [] := by
  obtain ⟨t, ht, hm⟩ := engineTurn_move hf
  exact ⟨t, (step_nil hi).trans ht, hm, (engineTurn_inbox ht).trans hi⟩

/-- With nothing pending an IDLE machine stays as it is (R141). -/
theorem step_idle {s : State} (hi : s.inbox = []) (hf : s.fsm = .idle) : step s = .next s := by
  rw [step_nil hi, engineTurn_eq, hf]

/-- A move that leaves the engine IDLE has completed the decode (R154). -/
theorem Move.done_of_idle {s t : State} (h : Move s t) (hf : t.fsm = .idle) : t.done = true := by
  cases h with
  | ends | fails => rfl
  | accepts | starts | latches | takes => cases hf

/-- A level sampled while a decode runs was inside the frame, and passed a unit of it. -/
theorem inFrame_of_level {s : State} {a : Level} (hok : EngineOk s)
    (hf : s.fsm = .start ∨ s.fsm = .pairA ∨ s.fsm = .pairB) (hs : (sample s).1 = a.toSample) :
    s.off.toNat < s.rawlen.toNat ∧ InFrame s ∧ InFrame (sample s).2 ∧
      unitsPassed s + 1 ≤ unitsPassed (sample s).2 := by
  have hin : s.off.toNat < s.rawlen.toNat := by
    by_contra hend
    rw [sample_of_end (Nat.not_lt.mp hend)] at hs
    exact Level.toSample_ne_exhausted a hs.symm
  have hframe : InFrame s := by
    rcases hf with hf | hf | hf
    · simp only [EngineOk, hf] at hok
      obtain ⟨hacc, hoff, hused, hcur⟩ := hok
      exact ⟨hacc, .inl ⟨hcur, hused⟩, by rw [hoff]; decide, hin.le⟩
    · exact ((engineOk_pairA_iff hf).mp hok).1
    · exact ((engineOk_pairB_iff hf).mp hok).1
  obtain ⟨hu, hp⟩ := sample_inFrame (u := (sample s).2) hframe (Prod.ext hs rfl)
  exact ⟨hin, hframe, hu, hp⟩

/-- A sample that is no ERROR is a level, or EXHAUSTED at the end of the frame with the cursor left (R123). -/
theorem sample_level_or_end {s : State} (hs : (sample s).1 ≠ .error) :
    (∃ a : Level, (sample s).1 = a.toSample) ∨ (s.rawlen.toNat ≤ s.off.toNat ∧ (sample s).2 = s) := by
  rcases sample_cases s with ⟨hend, h⟩ | ⟨_, _, _, h⟩ | ⟨_, _, _, _, h⟩ | ⟨_, _, h⟩
  · exact .inr ⟨hend, by rw [h]⟩
  · exact absurd (by rw [h]) hs
  · exact .inl ⟨_, by rw [h]⟩
  · exact .inl ⟨_, by rw [h]⟩

/-! ### How many steps are left -/

/-- Units of the frame that the cursor has not passed, counting each entry as `MAX_UNITS`. -/
def unitsLeft (s : State) : Nat :=
  s.params.maxUnits * (s.rawlen.toNat - 1) - unitsPassed s

theorem unitsPassed_le {s : State} (h : InFrame s) :
    unitsPassed s ≤ s.params.maxUnits * (s.rawlen.toNat - 1) := by
  obtain ⟨_, hc, h1, hend⟩ := h
  unfold unitsPassed
  rcases hc with ⟨_, hu⟩ | ⟨_, hlt, hle, hin⟩
  · rw [hu, Nat.add_zero]
    exact Nat.mul_le_mul_left _ (by omega)
  · calc s.params.maxUnits * (s.off.toNat - 1) + s.used
        ≤ s.params.maxUnits * (s.off.toNat - 1) + s.params.maxUnits := by omega
      _ = s.params.maxUnits * (s.off.toNat - 1 + 1) := (Nat.mul_succ _ _).symm
      _ ≤ s.params.maxUnits * (s.rawlen.toNat - 1) := Nat.mul_le_mul_left _ (by omega)

/-- A bound on the steps to the end of the decode: one sample a unit, then the end of the frame (R200). -/
def stepsLeft (s : State) : Nat :=
  match s.fsm with
  | .idle => 0
  | .lenchk =>
    if lengthRejects s.rawlen.toNat s.lcm then 1
    else s.params.maxUnits * (s.rawlen.toNat - 1) + if 1 < s.rawlen.toNat then 3 else 2
  | .start | .pairA => unitsLeft s + if s.off.toNat < s.rawlen.toNat then 2 else 1
  | .pairB => unitsLeft s + 2

theorem stepsLeft_pos {s : State} (hf : s.fsm ≠ .idle) : 0 < stepsLeft s := by
  unfold stepsLeft
  cases hq : s.fsm with
  | idle => exact absurd hq hf
  | lenchk | start | pairA => dsimp only; split_ifs <;> omega
  | pairB => exact Nat.succ_pos _

theorem unitsLeft_sample_lt {s : State} {a : Level} (hok : EngineOk s)
    (hf : s.fsm = .start ∨ s.fsm = .pairA ∨ s.fsm = .pairB) (hs : (sample s).1 = a.toSample) :
    s.off.toNat < s.rawlen.toNat ∧ unitsLeft (sample s).2 < unitsLeft s := by
  obtain ⟨hin, _, hu, hp⟩ := inFrame_of_level hok hf hs
  have hle := unitsPassed_le hu
  refine ⟨hin, ?_⟩
  unfold unitsLeft
  rw [sample_params, sample_rawlen] at *
  omega

theorem stepsLeft_pairA {s : State} (hf : s.fsm = .start ∨ s.fsm = .pairA) :
    stepsLeft s = unitsLeft s + if s.off.toNat < s.rawlen.toNat then 2 else 1 := by
  rcases hf with hf | hf <;> simp only [stepsLeft, hf]

theorem stepsLeft_pairB {s : State} (hf : s.fsm = .pairB) : stepsLeft s = unitsLeft s + 2 := by
  simp only [stepsLeft, hf]

/-- At the end of a frame one step is left, and before it two beyond its units. -/
theorem stepsLeft_pairA_le {s : State} (hf : s.fsm = .start ∨ s.fsm = .pairA) : stepsLeft s ≤ unitsLeft s + 2 := by
  rw [stepsLeft_pairA hf]
  split_ifs <;> omega

/-- Every move uses up a step. -/
theorem Move.stepsLeft_lt {s t : State} (hf : s.fsm ≠ .idle) (hok : EngineOk s) (h : Move s t) :
    stepsLeft t < stepsLeft s := by
  cases h with
  | ends | fails => exact stepsLeft_pos hf
  | accepts hq hacc =>
    have hleft : unitsLeft (initCursor s) = s.params.maxUnits * (s.rawlen.toNat - 1) := by
      simp [unitsLeft, unitsPassed]
    rw [stepsLeft_pairA (.inl rfl), hleft, initCursor_off, initCursor_rawlen]
    simp only [stepsLeft, hq, hacc, Bool.false_eq_true, if_false]
    change _ + (if 1 < s.rawlen.toNat then 2 else 1) < _
    split_ifs <;> omega
  | starts hq hs =>
    obtain ⟨hin, hlt⟩ := unitsLeft_sample_lt hok (.inl hq) hs
    have hle : stepsLeft (initBits (sample s).2) ≤ unitsLeft (sample s).2 + 2 := stepsLeft_pairA_le (.inr rfl)
    rw [stepsLeft_pairA (.inl hq), if_pos hin]
    omega
  | latches a hq hs =>
    obtain ⟨hin, hlt⟩ := unitsLeft_sample_lt hok (.inr (.inl hq)) hs
    have heq : stepsLeft (latchLevel a (sample s).2) = unitsLeft (sample s).2 + 2 := stepsLeft_pairB rfl
    rw [stepsLeft_pairA (.inr hq), if_pos hin]
    omega
  | takes b hq hs =>
    rw [stepsLeft_pairB hq]
    rcases sample_level_or_end hs with ⟨a, ha⟩ | ⟨hend, hu⟩
    · obtain ⟨_, hlt⟩ := unitsLeft_sample_lt hok (.inr (.inr hq)) ha
      have hle : stepsLeft (takeBit b (sample s).2) ≤ unitsLeft (sample s).2 + 2 := stepsLeft_pairA_le (.inr rfl)
      omega
    · rw [hu]
      have hone : stepsLeft (takeBit b s) = unitsLeft s + 1 :=
        (stepsLeft_pairA (.inr rfl)).trans (congrArg _ (if_neg (Nat.not_lt.mpr hend)))
      omega

/-- A running decode completes within its bound. -/
theorem exists_completion {s : State} (hok : EngineOk s) (hi : s.inbox = []) (hf : s.fsm ≠ .idle) :
    ∃ (k : Nat) (t : State), stepN k s = .next t ∧ t.fsm = .idle ∧ t.done = true ∧ k ≤ stepsLeft s := by
  induction hn : stepsLeft s using Nat.strong_induction_on generalizing s with
  | _ n ih =>
    obtain ⟨t, ht, hm, hit⟩ := step_move hi hf
    have hlt : stepsLeft t < n := hn ▸ hm.stepsLeft_lt hf hok
    by_cases htf : t.fsm = .idle
    · exact ⟨1, t, by rw [stepN_succ_of_step ht]; rfl, htf, hm.done_of_idle htf, by omega⟩
    · obtain ⟨k, u, hu, huf, hud, hk⟩ := ih _ hlt (step_engineOk hok ht) hit htf rfl
      exact ⟨k + 1, u, (stepN_succ_of_step ht).trans hu, huf, hud, by omega⟩

/-- Settles O53: the bound of a decode that starts, for any `MAX_UNITS` and for two units an entry. -/
theorem everyDecodeCompletes : Obligations.EveryDecodeCompletes := by
  intro s hf hi
  obtain ⟨k, t, hk, htf, htd, hle⟩ := exists_completion (engineOk_of_lenchk hf) hi (by simp [hf])
  simp only [stepsLeft, hf] at hle
  refine ⟨k, t, hk, htf, htd, ?_, fun hm => ?_⟩
  · split_ifs at hle <;> omega
  · have hmul : s.params.maxUnits * (s.rawlen.toNat - 1) ≤ 2 * (s.rawlen.toNat - 1) := Nat.mul_le_mul_right _ hm
    refine ⟨by split_ifs at hle <;> omega, fun hs => ?_⟩
    by_cases hrej : lengthRejects s.rawlen.toNat s.lcm = true
    · rw [if_pos hrej] at hle
      omega
    · have hlen := mt lengthRejects_iff.mpr hrej
      simp only [hs, true_and] at hlen
      rw [if_neg hrej] at hle
      split_ifs at hle <;> omega

/-! ### How many steps a SUCCESS takes -/

/-- What holds of every step of a run, with the number of steps taken. -/
theorem stepN_counts {P : Nat → State → Prop} (hstep : ∀ j s t, P j s → step s = .next t → P (j + 1) t) {j k : Nat}
    {s t : State} (hs : P j s) (h : stepN k s = .next t) : P (j + k) t := by
  induction k generalizing j s with
  | zero => cases h; exact hs
  | succ k ih =>
    obtain ⟨u, hu, ht⟩ := stepN_succ h
    have := ih (hstep j s u hs hu) ht
    rwa [Nat.add_right_comm] at this

/-- The last step of a run. -/
theorem step_of_stepN_succ {k : Nat} {s t u : State} (ht : stepN k s = .next t) (hu : stepN (k + 1) s = .next u) :
    step t = .next u := by
  induction k generalizing s with
  | zero =>
    cases ht
    obtain ⟨v, hv, hvu⟩ := stepN_succ hu
    cases hvu
    exact hv
  | succ k ih =>
    obtain ⟨v, hv, hvt⟩ := stepN_succ ht
    rw [stepN_succ_of_step hv] at hu
    exact ih hvt hu

/-- Steps taken since the decode started: one for LENCHK, one for START and two for each bit (R200). -/
def StepsTaken (j : Nat) (s : State) : Prop :=
  match s.fsm with
  | .idle => True
  | .lenchk => j = 0
  | .start => j = 1
  | .pairA => j = 2 + 2 * s.nb.toNat
  | .pairB => j = 3 + 2 * s.nb.toNat

/-- A bit taken in a frame of two units an entry does not wrap the count around (R157). -/
theorem takeBit_nb_toNat {s : State} (hok : EngineOk s) (hq : s.fsm = .pairB) (hm : s.params.maxUnits ≤ 2) (b : Bool) :
    (takeBit b (sample s).2).nb.toNat = s.nb.toNat + 1 := by
  obtain ⟨_, hlt⟩ := nbNext_lt_off hok (.inr hq) hm
  have hnext : nbNext s = s.nb.toNat + 1 := if_pos hq
  have hoff := s.off.isLt
  rw [takeBit_nb, sample_nb, BitVec.toNat_add]
  exact Nat.mod_eq_of_lt (show s.nb.toNat + 1 < 256 by omega)

theorem Move.stepsTaken {s t : State} {j : Nat} (hok : EngineOk s) (hm : s.params.maxUnits ≤ 2) (h : Move s t)
    (hj : StepsTaken j s) : StepsTaken (j + 1) t := by
  unfold StepsTaken at hj
  cases h with
  | ends | fails => trivial
  | accepts hq =>
    rw [hq] at hj
    exact congrArg Nat.succ hj
  | starts hq =>
    rw [hq] at hj
    exact congrArg Nat.succ hj
  | latches a hq =>
    rw [hq] at hj
    change j + 1 = 3 + 2 * (latchLevel a (sample s).2).nb.toNat
    rw [latchLevel_nb, sample_nb]
    omega
  | takes b hq =>
    rw [hq] at hj
    change j + 1 = 2 + 2 * (takeBit b (sample s).2).nb.toNat
    rw [takeBit_nb_toNat hok hq hm]
    omega

/-- What a run of the engine from an accepted DECODE keeps, with the steps it has taken. -/
def DecodeRun (j : Nat) (s : State) : Prop :=
  EngineOk s ∧ s.inbox = [] ∧ s.params.maxUnits ≤ 2 ∧ StepsTaken j s

theorem decodeRun_step (j : Nat) (s t : State) (h : DecodeRun j s) (ht : step s = .next t) : DecodeRun (j + 1) t := by
  obtain ⟨hok, hi, hm, hj⟩ := h
  by_cases hf : s.fsm = .idle
  · cases (step_idle hi hf).symm.trans ht
    exact ⟨hok, hi, hm, by simp only [StepsTaken, hf]⟩
  · obtain ⟨u, hu, hmove, hiu⟩ := step_move hi hf
    cases hu.symm.trans ht
    exact ⟨step_engineOk hok ht, hiu, step_params ht ▸ hm, hmove.stepsTaken hok hm hj⟩

/-- Settles O54: SUCCESS comes from PAIR_A with 23 bits, which 48 steps have decoded. -/
theorem successTakesExactly49Steps : Obligations.SuccessTakesExactly49Steps := by
  intro k s t u hf hi hm ht htf hu huf hr
  have hstart : DecodeRun 0 s := ⟨engineOk_of_lenchk hf, hi, hm, by simp only [StepsTaken, hf]⟩
  obtain ⟨_, _, _, hk⟩ := stepN_counts decodeRun_step hstart ht
  obtain ⟨hq, _, hn, _⟩ := successNeedsExactly23Bits.1 t u htf (step_of_stepN_succ ht hu) huf hr
  simp only [StepsTaken, hq, hn] at hk
  omega

/-! ### How often a decode reads the capture memory -/

/-- How many of the entries 1 to `n` - 1 the platform does not back. -/
def unbackedBelow (l : List Nat) (n : Nat) : Nat :=
  Nat.count (fun i => 1 ≤ i ∧ i ∈ l) n

theorem unbackedBelow_succ {i : Nat} (h1 : 1 ≤ i) (l : List Nat) :
    unbackedBelow l (i + 1) = unbackedBelow l i + if i ∈ l then 1 else 0 := by
  simp [unbackedBelow, Nat.count_succ, h1]

theorem unbackedBelow_mono (l : List Nat) {m n : Nat} (h : m ≤ n) : unbackedBelow l m ≤ unbackedBelow l n :=
  Nat.count_monotone _ h

theorem unbackedBelow_le (l : List Nat) (n : Nat) : unbackedBelow l n ≤ n - 1 := by
  cases n with
  | zero => exact Nat.le_refl 0
  | succ n =>
    rw [unbackedBelow, Nat.count_succ']
    simpa using Nat.count_le _

theorem unbackedBelow_singleton (i n : Nat) : unbackedBelow [i] n = if 1 ≤ i ∧ i < n then 1 else 0 := by
  induction n with
  | zero => simp [unbackedBelow]
  | succ n ih =>
    rw [unbackedBelow, Nat.count_succ, ← unbackedBelow, ih]
    simp only [List.mem_singleton]
    split_ifs <;> omega

/-- The least entry the sampler has not read: the one the cursor is at, or the next where that is classified. -/
def nextRead (s : State) : Nat :=
  if s.cur = 0 then s.off.toNat else s.off.toNat + 1

/-- A sample takes a draw only where it reads an entry that is not backed (R72). -/
theorem sample_draws_le (s : State) :
    (sample s).2.draws ≤ s.draws + if s.cur = 0 ∧ s.off.toNat ∈ s.unbacked then 1 else 0 := by
  have hread : (capRead s.off.toNat s).2.draws = s.draws + if s.off.toNat ∈ s.unbacked then 1 else 0 := by
    rcases capRead_cases s.off.toNat s with ⟨h, hr⟩ | ⟨h, hr⟩ <;> simp [hr, h]
  rcases sample_cases s with ⟨_, h⟩ | ⟨_, hc, _, h⟩ | ⟨_, hc, _, _, h⟩ | ⟨_, _, h⟩ <;> rw [h]
  · exact Nat.le_add_right _ _
  · simp [hread, hc]
  · simp [hread, hc]
  · simp

/-- After a sample that is a level, the entry it came from is read and no later one (R67). -/
theorem nextRead_sample {s : State} {a : Level} (hs : (sample s).1 = a.toSample) :
    nextRead (sample s).2 = s.off.toNat + 1 := by
  have hadvance {k : Nat} {u : State} (hin : u.off.toNat < u.rawlen.toNat) :
      nextRead (advance k u) = u.off.toNat + 1 := by
    have hoff : (u.off + 1).toNat = u.off.toNat + 1 := by
      have := u.rawlen.isLt
      bv_omega
    rcases advance_cases k u with ⟨_, h⟩ | ⟨hlt, h⟩ <;> rw [h]
    · exact (if_pos rfl).trans hoff
    · exact if_neg (show k ≠ 0 by omega)
  rcases sample_cases s with ⟨_, h⟩ | ⟨_, _, _, h⟩ | ⟨hin, _, _, _, h⟩ | ⟨hin, _, h⟩ <;> rw [h] at hs ⊢
  · exact absurd hs.symm (Level.toSample_ne_exhausted a)
  · cases a <;> cases hs
  · simpa using hadvance (u := (capRead s.off.toNat s).2) (by simpa using hin)
  · exact hadvance hin

/-- Entries the decode may have read: those before the cursor's, and all of the frame's once it is complete. -/
def readsBelow (s : State) : Nat :=
  match s.fsm with
  | .idle => s.rawlen.toNat
  | .lenchk => 1
  | .start | .pairA | .pairB => nextRead s

/-- The decode has taken at most one draw, beyond `d`, for each entry it may have read that is not backed. -/
def DrawsWithin (d : Nat) (s : State) : Prop :=
  s.draws ≤ d + unbackedBelow s.unbacked (readsBelow s)

/-- The cursor has an entry of the frame to read, or is past all of it. -/
theorem nextRead_le {s : State} (h : InFrame s) : nextRead s ≤ s.rawlen.toNat := by
  obtain ⟨_, hc, _, hend⟩ := h
  unfold nextRead
  split
  · exact hend
  · next hne =>
    rcases hc with ⟨h0, _⟩ | ⟨_, _, _, hin⟩
    · exact absurd h0 hne
    · exact hin

theorem readsBelow_le {s : State} (hok : EngineOk s) : readsBelow s ≤ max 1 s.rawlen.toNat := by
  unfold readsBelow
  cases hf : s.fsm with
  | idle => exact Nat.le_max_right _ _
  | lenchk => exact Nat.le_max_left _ _
  | start =>
    simp only [EngineOk, hf] at hok
    obtain ⟨_, hoff, _, hcur⟩ := hok
    simp [nextRead, hcur, hoff]
  | pairA => exact (nextRead_le ((engineOk_pairA_iff hf).mp hok).1).trans (Nat.le_max_right _ _)
  | pairB => exact (nextRead_le ((engineOk_pairB_iff hf).mp hok).1).trans (Nat.le_max_right _ _)

/-- Entry 0 is never read, so that a frame with no entry to read has none that is not backed. -/
theorem unbackedBelow_max_one (l : List Nat) (n : Nat) : unbackedBelow l (max 1 n) = unbackedBelow l n := by
  cases n with
  | zero => exact (Nat.le_zero.mp (unbackedBelow_le l 1)).trans (Nat.le_zero.mp (unbackedBelow_le l 0)).symm
  | succ n => rw [Nat.max_eq_right (Nat.succ_pos n)]

/-- A decode that stays within its draws has taken none past the frame. -/
theorem DrawsWithin.le_frame {d : Nat} {s : State} (hok : EngineOk s) (h : DrawsWithin d s) :
    s.draws ≤ d + unbackedBelow s.unbacked s.rawlen.toNat := by
  have := unbackedBelow_mono s.unbacked (readsBelow_le hok)
  rw [unbackedBelow_max_one] at this
  exact h.trans (Nat.add_le_add_left this d)

theorem readsBelow_of_sampling {s : State} (hf : s.fsm = .start ∨ s.fsm = .pairA ∨ s.fsm = .pairB) :
    readsBelow s = nextRead s := by
  rcases hf with hf | hf | hf <;> simp only [readsBelow, hf]

theorem one_le_off {s : State} (hok : EngineOk s) (hf : s.fsm = .start ∨ s.fsm = .pairA ∨ s.fsm = .pairB) :
    1 ≤ s.off.toNat := by
  rcases hf with hf | hf | hf
  · simp only [EngineOk, hf] at hok
    obtain ⟨_, hoff, _⟩ := hok
    rw [hoff]
    decide
  · obtain ⟨⟨_, _, h1, _⟩, _⟩ := (engineOk_pairA_iff hf).mp hok
    exact h1
  · obtain ⟨⟨_, _, h1, _⟩, _⟩ := (engineOk_pairB_iff hf).mp hok
    exact h1

/-- A sample reads at most the entry the cursor is at, and that at most once (R67). -/
theorem DrawsWithin.sample_le {d : Nat} {s : State} (hok : EngineOk s)
    (hf : s.fsm = .start ∨ s.fsm = .pairA ∨ s.fsm = .pairB) (h : DrawsWithin d s) :
    (sample s).2.draws ≤ d + unbackedBelow s.unbacked (s.off.toNat + 1) := by
  have hdraw := sample_draws_le s
  have hsucc := unbackedBelow_succ (one_le_off hok hf) s.unbacked
  unfold DrawsWithin at h
  rw [readsBelow_of_sampling hf, nextRead] at h
  by_cases hc : s.cur = 0
  · simp only [hc, true_and] at hdraw
    rw [if_pos hc] at h
    omega
  · simp only [hc, false_and, if_false] at hdraw
    rw [if_neg hc] at h
    omega

/-- A sample leaves the draws within the frame's (R67). -/
theorem DrawsWithin.sample_le_frame {d : Nat} {s : State} (hok : EngineOk s)
    (hf : s.fsm = .start ∨ s.fsm = .pairA ∨ s.fsm = .pairB) (h : DrawsWithin d s) :
    (sample s).2.draws ≤ d + unbackedBelow s.unbacked s.rawlen.toNat := by
  rcases Nat.lt_or_ge s.off.toNat s.rawlen.toNat with hin | hend
  · exact (h.sample_le hok hf).trans (Nat.add_le_add_left (unbackedBelow_mono _ hin) d)
  · rw [sample_of_end hend]
    exact h.le_frame hok

/-- A sample that is a level leaves the draws within those of the entries now read. -/
theorem DrawsWithin.sample_level {d : Nat} {s : State} (hok : EngineOk s)
    (hf : s.fsm = .start ∨ s.fsm = .pairA ∨ s.fsm = .pairB) (h : DrawsWithin d s) {a : Level}
    (hs : (sample s).1 = a.toSample) :
    (sample s).2.draws ≤ d + unbackedBelow (sample s).2.unbacked (nextRead (sample s).2) := by
  rw [nextRead_sample hs, sample_unbacked]
  exact h.sample_le hok hf

theorem drawsWithin_complete {d : Nat} {u : State} (h : u.draws ≤ d + unbackedBelow u.unbacked u.rawlen.toNat)
    (r : Result) (q : Reason) : DrawsWithin d (complete r q u) := by
  simpa [DrawsWithin, readsBelow] using h

theorem Move.drawsWithin {d : Nat} {s t : State} (hok : EngineOk s) (h : Move s t) (hd : DrawsWithin d s) :
    DrawsWithin d t := by
  cases h with
  | ends => exact drawsWithin_complete (hd.le_frame hok) _ _
  | fails r q hf => exact drawsWithin_complete (by simpa using hd.sample_le_frame hok hf) r q
  | accepts hf =>
    simp only [DrawsWithin, readsBelow, hf] at hd
    exact hd
  | starts hf hs => exact hd.sample_level hok (.inl hf) hs
  | latches a hf hs => exact hd.sample_level hok (.inr (.inl hf)) hs
  | takes b hf hs =>
    rcases sample_level_or_end hs with ⟨a, ha⟩ | ⟨_, hu⟩
    · exact hd.sample_level hok (.inr (.inr hf)) ha
    · rw [hu]
      rw [DrawsWithin, readsBelow_of_sampling (.inr (.inr hf))] at hd
      exact hd

/-- What a run of the engine keeps of its draws: `d` before it, over `n` entries, those of `l` not backed. -/
def ReadRun (d : Nat) (l : List Nat) (n : Count) (s : State) : Prop :=
  EngineOk s ∧ s.inbox = [] ∧ s.unbacked = l ∧ s.rawlen = n ∧ DrawsWithin d s

theorem readRun_step {d : Nat} {l : List Nat} {n : Count} (s t : State) (h : ReadRun d l n s)
    (ht : step s = .next t) : ReadRun d l n t := by
  obtain ⟨hok, hi, hl, hn, hd⟩ := h
  by_cases hf : s.fsm = .idle
  · cases (step_idle hi hf).symm.trans ht
    exact ⟨hok, hi, hl, hn, hd⟩
  · obtain ⟨u, hu, hmove, hiu⟩ := step_move hi hf
    cases hu.symm.trans ht
    obtain ⟨_, _, _, _, hrawlen, _, _, _, _, hunbacked, _, _⟩ :=
      hostSide_eq (engineTurn_hostSide ((step_nil hi).symm.trans ht))
    exact ⟨step_engineOk hok ht, hiu, hunbacked.trans hl, hrawlen.trans hn, hmove.drawsWithin hok hd⟩

/-- Settles O55: the draws stay within one for each entry of the frame, from 1, that is not backed. -/
theorem decodeReadsEachEntryAtMostOnce : Obligations.DecodeReadsEachEntryAtMostOnce := by
  intro k s t hf hi ht
  have hstart : ReadRun s.draws s.unbacked s.rawlen s :=
    ⟨engineOk_of_lenchk hf, hi, rfl, rfl, Nat.le_add_right _ _⟩
  obtain ⟨hok, _, hl, hn, hd⟩ := stepN_keeps readRun_step hstart ht
  have hle := hd.le_frame hok
  rw [hl, hn] at hle
  refine ⟨fun i hone => ?_, hle.trans (Nat.add_le_add_left (unbackedBelow_le _ _) _)⟩
  rwa [hone, unbackedBelow_singleton] at hle

end Sys2Proof.Machine
end

section
/-! Proofs: a decode is a function of its inputs (spec/42_bit_assembly.md R158; spec/10_state.md R47). -/

namespace Sys2Proof.Machine

/-! ### Two machines at the same point of a decode -/

/-- The engine state and the result registers agree. -/
def SameOutputs (s t : State) : Prop :=
  s.fsm = t.fsm ∧ s.done = t.done ∧ s.result = t.result ∧ s.rawval = t.rawval ∧ s.diagReason = t.diagReason ∧
    s.diagPos = t.diagPos ∧ s.diagNbits = t.diagNbits

/-- The cursors agree, past the leading gap. -/
def SameCursor (s t : State) : Prop :=
  s.off = t.off ∧ s.used = t.used ∧ s.cur = t.cur ∧ 1 ≤ s.off.toNat

/-- The bits decoded so far agree. -/
def SameBits (s t : State) : Prop :=
  s.acc = t.acc ∧ s.nb = t.nb

/-- The hidden fields that this decode has written agree; the others hold what an earlier decode left (R47). -/
def SameHidden (s t : State) : Prop :=
  match s.fsm with
  | .idle => True
  | .lenchk => True
  | .start => SameCursor s t
  | .pairA => SameCursor s t ∧ SameBits s t
  | .pairB => SameCursor s t ∧ SameBits s t ∧ s.lvlA = t.lvlA

/-- Two machines are at the same point of a decode. -/
def SameEngine (s t : State) : Prop :=
  SameOutputs s t ∧ SameHidden s t

/-- A decode's inputs are the host's side of the state. -/
theorem sameInputs_hostSide (s t : State) : SameInputs (hostSide s) (hostSide t) ↔ SameInputs s t := Iff.rfl

theorem engineTurn_sameInputs {s t s' t' : State} (h : SameInputs s t) (hs : engineTurn s = .next s')
    (ht : engineTurn t = .next t') : SameInputs s' t' := by
  rw [← sameInputs_hostSide, engineTurn_hostSide hs, engineTurn_hostSide ht]
  exact h

theorem SameInputs.rawlen_eq {s t : State} (h : SameInputs s t) : s.rawlen = t.rawlen := by
  obtain ⟨_, hlen, _⟩ := h
  exact hlen

theorem SameInputs.diagEn_eq {s t : State} (h : SameInputs s t) : s.diagEn = t.diagEn := by
  obtain ⟨_, _, _, _, _, hd, _⟩ := h
  exact hd

/-! ### The sampler -/

theorem sameCursor_advance {s t : State} (k : Nat) (h : SameCursor s t) (hin : s.off.toNat < s.rawlen.toNat) :
    SameCursor (advance k s) (advance k t) := by
  obtain ⟨hoff, hused, _, h1⟩ := h
  have hnext : 1 ≤ (s.off + 1).toNat := by
    have := s.rawlen.isLt
    bv_omega
  unfold advance
  rw [← hused]
  split
  · exact ⟨congrArg (· + 1) hoff, rfl, rfl, hnext⟩
  · exact ⟨hoff, congrArg (· + 1) rfl, rfl, h1⟩

/-- The entry at the cursor is read with the same answer, which changes neither machine (R158). -/
theorem capRead_same {s t : State} (hi : SameInputs s t) (hc : SameCursor s t) (hin : s.off.toNat < s.rawlen.toNat) :
    capRead s.off.toNat s = (capEntry s.off.toNat s, s) ∧ capRead t.off.toNat t = (capEntry s.off.toNat s, t) := by
  obtain ⟨_, _, _, _, _, _, hcap⟩ := hi
  obtain ⟨hoff, _, _, h1⟩ := hc
  obtain ⟨hs, ht, he⟩ := hcap _ hin h1
  rw [← hoff, he]
  exact ⟨he ▸ if_pos hs, if_pos ht⟩

theorem classifyEntry_same {s t : State} (hi : SameInputs s t) (w : Nat) : classifyEntry t w = classifyEntry s w := by
  obtain ⟨hparams, _, hunit, htol, _⟩ := hi
  rw [classifyEntry, classifyEntry, hparams, hunit, htol]

/-- The two samplers give the same sample and move alike (R158). -/
theorem sample_same {s t : State} (hi : SameInputs s t) (hc : SameCursor s t) :
    (sample t).1 = (sample s).1 ∧ SameCursor (sample s).2 (sample t).2 := by
  have hlen := hi.rawlen_eq
  obtain ⟨hoff, hused, hcur, h1⟩ := id hc
  rcases Nat.lt_or_ge s.off.toNat s.rawlen.toNat with hin | hend
  · have hint : t.off.toNat < t.rawlen.toNat := by rwa [← hoff, ← hlen]
    by_cases h0 : s.cur = 0
    · obtain ⟨hs, ht⟩ := capRead_same hi hc hin
      cases hk : classifyEntry s (capEntry s.off.toNat s) with
      | none =>
        rw [sample_of_unclassified hin h0 (by rw [hs]; exact hk),
          sample_of_unclassified hint (hcur ▸ h0) (by rw [ht, classifyEntry_same hi]; exact hk), hs, ht]
        exact ⟨rfl, hc⟩
      | some k =>
        rw [sample_of_classified hin h0 (by rw [hs]; exact hk),
          sample_of_classified hint (hcur ▸ h0) (by rw [ht, classifyEntry_same hi]; exact hk), hs, ht, ← hoff]
        exact ⟨rfl, sameCursor_advance k hc hin⟩
    · rw [sample_of_midEntry hin h0, sample_of_midEntry hint (hcur ▸ h0), ← hoff, ← hcur]
      exact ⟨rfl, sameCursor_advance _ hc hin⟩
  · rw [sample_of_end hend, sample_of_end (by rwa [← hoff, ← hlen])]
    exact ⟨rfl, hc⟩

theorem sameOutputs_sample {s t : State} (h : SameOutputs s t) : SameOutputs (sample s).2 (sample t).2 := by
  simpa [SameOutputs] using h

theorem sameBits_sample {s t : State} (h : SameBits s t) : SameBits (sample s).2 (sample t).2 := by
  simpa [SameBits] using h

/-! ### The engine's steps -/

/-- Two completions agree where they write the same DIAG, and the same value where it is one (R154). -/
theorem sameEngine_complete {s t : State} {r : Result} {q : Reason} (ho : SameOutputs s t) (hd : s.diagEn = t.diagEn)
    (hpos : r ≠ .rejected → s.off = t.off ∧ bitsDecoded s = bitsDecoded t) (hacc : r = .success → s.acc = t.acc) :
    SameEngine (complete r q s) (complete r q t) := by
  obtain ⟨_, _, _, _, hreason, hpos', hnbits⟩ := ho
  refine ⟨?_, trivial⟩
  rw [complete_eq, complete_eq]
  by_cases hr : r = .rejected
  · simp [SameOutputs, hr, hd, hreason, hpos', hnbits]
  · obtain ⟨hoff, hbits⟩ := hpos hr
    by_cases hs : r = .success
    · simp [SameOutputs, hs, hd, hreason, hpos', hnbits, hoff, hbits, hacc hs]
    · simp [SameOutputs, hs, hd, hreason, hpos', hnbits, hoff, hbits]

/-- Before START has written the count, none is reported; from then on the count decoded is (R45). -/
theorem bitsDecoded_same {s t : State} (hf : s.fsm = t.fsm) (h : s.fsm = .lenchk ∨ s.fsm = .start ∨ SameBits s t) :
    bitsDecoded s = bitsDecoded t := by
  rw [bitsDecoded_eq, bitsDecoded_eq, ← hf]
  rcases h with h | h | ⟨_, hnb⟩
  · simp [h]
  · simp [h]
  · rw [hnb]

/-- A decode that fails before its end leaves no value, so that the cursor and the count decide what it leaves. -/
theorem sameEngine_malformed {s t : State} (q : Reason) (ho : SameOutputs s t) (hd : s.diagEn = t.diagEn)
    (hc : SameCursor s t) (hb : s.fsm = .start ∨ SameBits s t) :
    SameEngine (complete .malformed q s) (complete .malformed q t) :=
  sameEngine_complete ho hd (fun _ => ⟨hc.1, bitsDecoded_same ho.1 (.inr hb)⟩) nofun

theorem sameEngine_lenchkStep {s t : State} (hi : SameInputs s t) (ho : SameOutputs s t) :
    SameEngine (lenchkStep s) (lenchkStep t) := by
  obtain ⟨_, hlen, _, _, hlcm, hd, _⟩ := hi
  obtain ⟨_, hout⟩ := id ho
  by_cases hrej : lengthRejects s.rawlen.toNat s.lcm = true
  · rw [lenchkStep_of_rejects hrej, lenchkStep_of_rejects (by rwa [← hlen, ← hlcm])]
    exact sameEngine_complete ho hd (fun hne => absurd rfl hne) nofun
  · rw [lenchkStep_of_accepts hrej, lenchkStep_of_accepts (by rwa [← hlen, ← hlcm])]
    exact ⟨⟨rfl, hout⟩, rfl, rfl, rfl, show 1 ≤ (1 : Count).toNat by decide⟩

theorem sameEngine_takeBit {s t : State} (ho : SameOutputs s t) (hc : SameCursor s t) (hb : SameBits s t) (b : Bool) :
    SameEngine (takeBit b s) (takeBit b t) := by
  obtain ⟨_, hout⟩ := ho
  obtain ⟨hacc, hnb⟩ := hb
  refine ⟨⟨rfl, hout⟩, hc, ?_, ?_⟩
  · rw [takeBit_acc, takeBit_acc, hacc]
  · rw [takeBit_nb, takeBit_nb, hnb]

section
variable {s t : State} (ho : SameOutputs s t) (hd : s.diagEn = t.diagEn) (hc : SameCursor s t)
include ho hd hc

theorem sameEngine_startStep (hf : s.fsm = .start) (b : Sample) : SameEngine (startStep b s) (startStep b t) := by
  cases b with
  | mark => exact ⟨⟨rfl, ho.2⟩, hc, rfl, rfl⟩
  | space | error | exhausted => exact sameEngine_malformed _ ho hd hc (.inl hf)

variable (hb : SameBits s t)
include hb

theorem sameEngine_finishFrame : SameEngine (finishFrame s) (finishFrame t) := by
  obtain ⟨hacc, hnb⟩ := id hb
  rw [finishFrame_eq, finishFrame_eq, ← hnb]
  exact sameEngine_complete ho hd (fun _ => ⟨hc.1, bitsDecoded_same ho.1 (.inr (.inr hb))⟩) fun _ => hacc

theorem sameEngine_firstHalf (a : Sample) : SameEngine (firstHalf a s) (firstHalf a t) := by
  cases a with
  | space | mark => exact ⟨⟨rfl, ho.2⟩, hc, hb, rfl⟩
  | error => exact sameEngine_malformed _ ho hd hc (.inr hb)
  | exhausted => exact sameEngine_finishFrame ho hd hc hb

theorem sameEngine_applyPair (p : PairSym) : SameEngine (applyPair p s) (applyPair p t) := by
  cases p with
  | bit0 | bit1 => exact sameEngine_takeBit ho hc hb _
  | invalid => exact sameEngine_malformed _ ho hd hc (.inr hb)

theorem sameEngine_secondHalf (hl : s.lvlA = t.lvlA) (b : Sample) : SameEngine (secondHalf b s) (secondHalf b t) := by
  cases b with
  | mark | space | exhausted => simpa only [secondHalf, hl] using sameEngine_applyPair ho hd hc hb _
  | error => exact sameEngine_malformed _ ho hd hc (.inr hb)

end

theorem sameEngine_pairAStep {s t : State} (hi : SameInputs s t) (ho : SameOutputs s t) (hc : SameCursor s t)
    (hb : SameBits s t) : SameEngine (pairAStep s) (pairAStep t) := by
  have hlen := hi.rawlen_eq
  have hd := hi.diagEn_eq
  have hoff : s.off = t.off := hc.1
  rcases Nat.lt_or_ge s.off.toNat s.rawlen.toNat with hin | hend
  · obtain ⟨ha, hcu⟩ := sample_same hi hc
    rw [pairAStep_of_inside hin, pairAStep_of_inside (by rwa [← hoff, ← hlen]), ha]
    exact sameEngine_firstHalf (sameOutputs_sample ho) (by simpa using hd) hcu (sameBits_sample hb) _
  · rw [pairAStep_of_end hend, pairAStep_of_end (by rwa [← hoff, ← hlen])]
    exact sameEngine_finishFrame ho hd hc hb

/-- The engines of two machines at the same point of a decode, of the same inputs, take the same step. -/
theorem engineTurn_same {s t : State} (hi : SameInputs s t) (h : SameEngine s t) :
    ∃ s' t', engineTurn s = .next s' ∧ engineTurn t = .next t' ∧ SameEngine s' t' := by
  refine ⟨_, _, engineTurn_eq s, engineTurn_eq t, ?_⟩
  obtain ⟨ho, hh⟩ := h
  have hd : (sample s).2.diagEn = (sample t).2.diagEn := by simpa using hi.diagEn_eq
  have hou := sameOutputs_sample ho
  rw [← ho.1]
  unfold SameHidden at hh
  cases hf : s.fsm <;> rw [hf] at hh
  case idle => exact ⟨ho, by simp only [SameHidden, hf]⟩
  case lenchk => exact sameEngine_lenchkStep hi ho
  case start =>
    obtain ⟨ha, hcu⟩ := sample_same hi hh
    simp only [ha]
    exact sameEngine_startStep hou hd hcu (by simpa using hf) _
  case pairA =>
    obtain ⟨hc, hb⟩ := hh
    exact sameEngine_pairAStep hi ho hc hb
  case pairB =>
    obtain ⟨hc, hb, hl⟩ := hh
    obtain ⟨ha, hcu⟩ := sample_same hi hc
    simp only [ha]
    exact sameEngine_secondHalf hou hd hcu (sameBits_sample hb) (by simpa using hl) _

theorem stepN_same (k : Nat) {s t : State} (his : s.inbox = []) (hit : t.inbox = []) (hi : SameInputs s t)
    (h : SameEngine s t) : ∃ s' t', stepN k s = .next s' ∧ stepN k t = .next t' ∧ SameEngine s' t' := by
  induction k generalizing s t with
  | zero => exact ⟨s, t, rfl, rfl, h⟩
  | succ k ih =>
    obtain ⟨u, v, hu, hv, huv⟩ := engineTurn_same hi h
    rw [stepN_succ_of_step ((step_nil his).trans hu), stepN_succ_of_step ((step_nil hit).trans hv)]
    exact ih ((engineTurn_inbox hu).trans his) ((engineTurn_inbox hv).trans hit) (engineTurn_sameInputs hi hu hv) huv

/-- Settles O56: two decodes of the same inputs start at the same point, and stay there together. -/
theorem decodeDependsOnlyOnItsInputs : Obligations.DecodeDependsOnlyOnItsInputs := by
  intro k s t hs ht his hit hi
  rw [startDecode_of_idle hs, startDecode_of_idle ht]
  have hstart : SameEngine { clearResults s with fsm := .lenchk } { clearResults t with fsm := .lenchk } :=
    ⟨⟨rfl, rfl, rfl, rfl, rfl, rfl, rfl⟩, trivial⟩
  obtain ⟨s', t', hs', ht', ho, _⟩ := stepN_same k (s := { clearResults s with fsm := .lenchk })
    (t := { clearResults t with fsm := .lenchk }) his hit hi hstart
  exact ⟨s', t', hs', ht', ho⟩

end Sys2Proof.Machine
end

section
/-! Proofs: captures as lists of levels: their runs, and frames as lists of level pairs (spec/95_test_vectors.md section
2). -/

namespace Sys2Proof.Machine

/-! ### Runs -/

/-- The runs of a longer list, by whether its head goes on with the next run. -/
theorem runLengths_cons_cons (a b : Level) (l : List Level) : ∃ n ns, runLengths (b :: l) = n :: ns ∧
    runLengths (a :: b :: l) = if a = b then (n + 1) :: ns else 1 :: n :: ns := by
  induction l generalizing a b with
  | nil => exact ⟨1, [], rfl, rfl⟩
  | cons c l ih =>
    obtain ⟨n, ns, _, hbc⟩ := ih b c
    have hne : ∃ m ms, runLengths (b :: c :: l) = m :: ms := by
      rw [hbc]
      split <;> exact ⟨_, _, rfl⟩
    obtain ⟨m, ms, hm⟩ := hne
    exact ⟨m, ms, hm, by rw [runLengths, hm]⟩

theorem runLengths_two (a b : Level) : runLengths [a, b] = if a = b then [2] else [1, 1] := rfl

/-- A head of another level begins a run. -/
theorem length_runLengths_cons_cons (a b : Level) (l : List Level) :
    (runLengths (a :: b :: l)).length = (runLengths (b :: l)).length + if a = b then 0 else 1 := by
  obtain ⟨n, ns, hb, hab⟩ := runLengths_cons_cons a b l
  rw [hb, hab]
  split <;> rfl

theorem runLengths_pos {l : List Level} {r : Nat} (h : r ∈ runLengths l) : 1 ≤ r := by
  induction l with
  | nil => cases h
  | cons a l ih =>
    cases l with
    | nil => simp only [runLengths, List.mem_singleton] at h; omega
    | cons b l =>
      obtain ⟨n, ns, hb, hab⟩ := runLengths_cons_cons a b l
      rw [hb] at ih
      rw [hab] at h
      split at h
      · rcases List.mem_cons.mp h with rfl | h
        · exact Nat.succ_pos n
        · exact ih (List.mem_cons_of_mem n h)
      · rcases List.mem_cons.mp h with rfl | h
        · exact Nat.le_refl 1
        · exact ih h

theorem sum_runLengths (l : List Level) : (runLengths l).sum = l.length := by
  induction l with
  | nil => rfl
  | cons a l ih =>
    cases l with
    | nil => rfl
    | cons b l =>
      obtain ⟨n, ns, hb, hab⟩ := runLengths_cons_cons a b l
      rw [hb, List.sum_cons] at ih
      rw [hab, List.length_cons, ← ih]
      split <;> simp only [List.sum_cons] <;> omega

theorem runLengths_le_length {l : List Level} {r : Nat} (h : r ∈ runLengths l) : r ≤ l.length :=
  sum_runLengths l ▸ List.le_sum_of_mem h

theorem length_runLengths_le (l : List Level) : (runLengths l).length ≤ l.length :=
  sum_runLengths l ▸ List.length_le_sum_of_one_le _ fun _ => runLengths_pos

/-- The levels that the entries from `i` on stand for, where they are runs of these lengths (R121). -/
def spreadRuns : Nat → List Nat → List Level
  | _, [] => []
  | i, n :: ns => List.replicate n (levelAt i) ++ spreadRuns (i + 1) ns

theorem levelAt_succ_eq {i : Nat} {a b : Level} (ha : levelAt i = a) (hab : a ≠ b) : levelAt (i + 1) = b := by
  unfold levelAt at *
  split at ha
  · rw [if_neg (by omega)]
    cases b <;> simp_all
  · rw [if_pos (by omega)]
    cases b <;> simp_all

/-- The runs of a list, spread over entries whose levels alternate from its head's, are the list. -/
theorem spreadRuns_runLengths {i : Nat} {a : Level} (l : List Level) (h : levelAt i = a) :
    spreadRuns i (runLengths (a :: l)) = a :: l := by
  induction l generalizing i a with
  | nil => simp [runLengths, spreadRuns, h]
  | cons b l ih =>
    obtain ⟨n, ns, hb, hab⟩ := runLengths_cons_cons a b l
    by_cases heq : a = b
    · subst heq
      have hl := ih h
      rw [hb, spreadRuns] at hl
      rw [hab, if_pos rfl, spreadRuns, List.replicate_succ, List.cons_append, hl, h]
    · have hl := ih (levelAt_succ_eq h heq)
      rw [hb] at hl
      rw [hab, if_neg heq, spreadRuns, hl, h]
      rfl

/-! ### Pairs -/

/-- The levels of a list of pairs of half-bits. -/
def pairLevels (ps : List (Level × Level)) : List Level :=
  ps.flatMap fun p => [p.1, p.2]

theorem pairLevels_cons (p : Level × Level) (ps : List (Level × Level)) :
    pairLevels (p :: ps) = p.1 :: p.2 :: pairLevels ps := rfl

theorem length_pairLevels (ps : List (Level × Level)) : (pairLevels ps).length = 2 * ps.length := by
  induction ps with
  | nil => rfl
  | cons p ps ih => simp only [pairLevels_cons, List.length_cons, ih]; omega

/-- A bit as a pair of half-bits (R89). -/
def bitPair (b : Bool) : Level × Level :=
  if b then (.mark, .space) else (.space, .mark)

theorem bitLevels_eq (b : Bool) : bitLevels b = [(bitPair b).1, (bitPair b).2] := by
  cases b <;> rfl

theorem bitPair_ne (b : Bool) : (bitPair b).1 ≠ (bitPair b).2 := by
  cases b <;> decide

theorem dropFinalSpace_cons {l : List Level} (h : l ≠ []) (a : Level) :
    dropFinalSpace (a :: l) = a :: dropFinalSpace l := by
  rw [dropFinalSpace, dropFinalSpace, List.getLast?_cons_of_ne_nil h, List.dropLast_cons_of_ne_nil h]
  split <;> rfl

/-- A level stands in the capture, unless it is a SPACE at the very end. -/
theorem dropFinalSpace_cons_cases (b : Level) (l : List Level) :
    dropFinalSpace (b :: l) = b :: dropFinalSpace l ∨ (b = .space ∧ l = [] ∧ dropFinalSpace (b :: l) = []) := by
  cases l with
  | cons c l => exact .inl (dropFinalSpace_cons (List.cons_ne_nil c l) b)
  | nil =>
    cases b with
    | space => exact .inr ⟨rfl, rfl, rfl⟩
    | mark => exact .inl rfl

theorem length_dropFinalSpace_le (l : List Level) : (dropFinalSpace l).length ≤ l.length := by
  unfold dropFinalSpace
  split
  · simp
  · exact Nat.le_refl _

theorem dropFinalSpace_pairLevels_cons (p : Level × Level) (ps : List (Level × Level)) :
    dropFinalSpace (pairLevels (p :: ps)) = p.1 :: dropFinalSpace (p.2 :: pairLevels ps) :=
  dropFinalSpace_cons (List.cons_ne_nil _ _) p.1

/-- A frame of valid pairs has no run of more than two units. -/
theorem runLengths_le_two {ps : List (Level × Level)} (h : ∀ p ∈ ps, p.1 ≠ p.2) (a : Level) :
    ∀ r ∈ runLengths (a :: dropFinalSpace (pairLevels ps)), r ≤ 2 := by
  induction ps generalizing a with
  | nil => simp [pairLevels, dropFinalSpace, runLengths]
  | cons p ps ih =>
    have hp : p.1 ≠ p.2 := h p List.mem_cons_self
    have htail := ih (fun q hq => h q (List.mem_cons_of_mem p hq)) p.2
    rw [dropFinalSpace_pairLevels_cons]
    rcases dropFinalSpace_cons_cases p.2 (pairLevels ps) with hd | ⟨_, _, hd⟩ <;> rw [hd]
    · obtain ⟨n, ns, hn, hpn⟩ := runLengths_cons_cons p.1 p.2 (dropFinalSpace (pairLevels ps))
      obtain ⟨m, ms, hm, ham⟩ := runLengths_cons_cons a p.1 (p.2 :: dropFinalSpace (pairLevels ps))
      rw [if_neg hp] at hpn
      obtain ⟨rfl, rfl⟩ := List.cons.inj (hm.symm.trans hpn)
      rw [hn] at htail
      rw [ham]
      split <;> simpa using htail
    · rw [runLengths_two]
      split <;> simp

/-- Each valid pair begins another run. -/
theorem countP_le_length_runLengths (ps : List (Level × Level)) (a : Level) :
    ps.countP (fun p => p.1 ≠ p.2) ≤ (runLengths (a :: dropFinalSpace (pairLevels ps))).length := by
  induction ps generalizing a with
  | nil => exact Nat.zero_le _
  | cons p ps ih =>
    have htail := ih p.2
    have hcount : (if decide (p.1 ≠ p.2) = true then 1 else 0) = if p.1 = p.2 then 0 else 1 := by
      by_cases hp : p.1 = p.2 <;> simp [hp]
    rw [dropFinalSpace_pairLevels_cons, List.countP_cons, hcount, length_runLengths_cons_cons]
    rcases dropFinalSpace_cons_cases p.2 (pairLevels ps) with hd | ⟨_, hnil, hd⟩ <;> rw [hd]
    · rw [length_runLengths_cons_cons p.1]
      omega
    · have hps : ps = [] := by
        have hlen := length_pairLevels ps
        rw [hnil, List.length_nil] at hlen
        exact List.length_eq_zero_iff.mp (by omega)
      subst hps
      rw [List.countP_nil, runLengths, List.length_singleton]
      split_ifs <;> omega

end Sys2Proof.Machine
end

section
/-! Proofs: what the engine makes of a capture (spec/42_bit_assembly.md R160, R161). -/

namespace Sys2Proof.Machine

/-! ### The levels ahead of the sampler -/

/-- The entries from `i` on are backed and hold these runs, in units of `UNIT.T`. -/
def HoldsRuns (s : State) (i : Nat) (rs : List Nat) : Prop :=
  ∀ j < rs.length, backed (i + j) s = true ∧ capEntry (i + j) s = rs.getD j 0 * s.unit.toNat

theorem HoldsRuns.head {s : State} {i r : Nat} {rs : List Nat} (h : HoldsRuns s i (r :: rs)) :
    backed i s = true ∧ capEntry i s = r * s.unit.toNat :=
  h 0 (Nat.succ_pos _)

theorem HoldsRuns.tail {s : State} {i r : Nat} {rs : List Nat} (h : HoldsRuns s i (r :: rs)) :
    HoldsRuns s (i + 1) rs := fun j hj => by
  rw [Nat.add_right_comm, Nat.add_assoc]
  exact h (j + 1) (Nat.succ_lt_succ hj)

/-- The runs `rs`, of 1 to `n` units, stand from the cursor's entry to the end of the frame, and the cursor is at the
start of the first or inside it. -/
def RunsAhead (n : Nat) (s : State) (rs : List Nat) : Prop :=
  s.rawlen.toNat = s.off.toNat + rs.length ∧ HoldsRuns s s.off.toNat rs ∧ (∀ r ∈ rs, 1 ≤ r ∧ r ≤ n) ∧
    ((s.cur = 0 ∧ s.used = 0) ∨ (s.used < s.cur ∧ rs.head? = some s.cur))

/-- The sampler has exactly these levels ahead of it, in runs of at most `n` units. -/
def LevelsAhead (n : Nat) (s : State) (l : List Level) : Prop :=
  ∃ rs, RunsAhead n s rs ∧ l = (spreadRuns s.off.toNat rs).drop s.used

section
variable {n r : Nat} {s : State} {rs : List Nat} (h : RunsAhead n s (r :: rs))
include h

theorem RunsAhead.off_lt : s.off.toNat < s.rawlen.toNat := by
  obtain ⟨hframe, _⟩ := h
  rw [hframe, List.length_cons]
  omega

/-- The cursor has units of the first run left. -/
theorem RunsAhead.used_lt : s.used < r := by
  obtain ⟨_, _, hbounds, ⟨_, hu⟩ | ⟨hu, hr⟩⟩ := h
  · obtain ⟨h1, _⟩ := hbounds r List.mem_cons_self
    omega
  · exact (Option.some.inj hr) ▸ hu

/-- One unit of the first run taken, the rest of the levels is ahead (R123). -/
theorem RunsAhead.advance : LevelsAhead n (advance r s) ((spreadRuns s.off.toNat (r :: rs)).drop (s.used + 1)) := by
  have hlt := h.used_lt
  have hin := h.off_lt
  obtain ⟨hframe, hholds, hbounds, _⟩ := h
  rcases advance_cases r s with ⟨hlast, ha⟩ | ⟨hmore, ha⟩ <;> rw [ha]
  · have hoff : (s.off + 1).toNat = s.off.toNat + 1 := by
      have := s.rawlen.isLt
      bv_omega
    have hrun : s.used + 1 = (List.replicate r (levelAt s.off.toNat)).length := by
      rw [List.length_replicate]
      omega
    refine ⟨rs, ⟨?_, ?_, fun q hq => hbounds q (List.mem_cons_of_mem r hq), .inl ⟨rfl, rfl⟩⟩, ?_⟩
    · change s.rawlen.toNat = (s.off + 1).toNat + rs.length
      rw [hframe, hoff, List.length_cons]
      omega
    · change HoldsRuns s (s.off + 1).toNat rs
      rw [hoff]
      exact hholds.tail
    · change _ = spreadRuns (s.off + 1).toNat rs
      rw [hoff, spreadRuns, hrun, List.drop_left]
  · exact ⟨r :: rs, ⟨hframe, hholds, hbounds, .inr ⟨hmore, rfl⟩⟩, rfl⟩

end

/-- The level at the cursor is the first ahead. -/
theorem drop_spreadRuns {i r u : Nat} (h : u < r) (rs : List Nat) :
    (spreadRuns i (r :: rs)).drop u = levelAt i :: (spreadRuns i (r :: rs)).drop (u + 1) := by
  rw [spreadRuns, List.drop_append_of_le_length (by simpa using h.le),
    List.drop_append_of_le_length (by simpa using h), List.drop_replicate, List.drop_replicate,
    show r - u = r - (u + 1) + 1 by omega, List.replicate_succ, List.cons_append]

/-- The first level ahead is that of the cursor's entry, and has a run. -/
theorem LevelsAhead.exists_run {n : Nat} {s : State} {a : Level} {l : List Level} (h : LevelsAhead n s (a :: l)) :
    ∃ r rs, RunsAhead n s (r :: rs) ∧ a = levelAt s.off.toNat ∧
      l = (spreadRuns s.off.toNat (r :: rs)).drop (s.used + 1) := by
  obtain ⟨rs, hr, hl⟩ := h
  cases rs with
  | nil => simp [spreadRuns] at hl
  | cons r rs =>
    rw [drop_spreadRuns hr.used_lt] at hl
    obtain ⟨ha, hl⟩ := List.cons.inj hl
    exact ⟨r, rs, hr, ha, hl⟩

/-- Past the last level the frame is at its end. -/
theorem LevelsAhead.end_of_nil {n : Nat} {s : State} (h : LevelsAhead n s []) : s.rawlen.toNat ≤ s.off.toNat := by
  obtain ⟨rs, hr, hl⟩ := h
  cases rs with
  | nil =>
    obtain ⟨hframe, _⟩ := hr
    exact hframe.le
  | cons r rs =>
    rw [drop_spreadRuns hr.used_lt] at hl
    cases hl

/-- An entry of `k` units, with a tolerance below the unit, is classified as `k`, or not at all (R122). -/
theorem classify_mul {n t e k : Nat} (he : e < t) (hk : 1 ≤ k) :
    classify n t e (k * t) = if k ≤ n then some k else none := by
  have hmatch {j : Nat} (hm : windowMatch t e (k * t) j = true) : j = k := by
    rw [windowMatch_iff] at hm
    obtain ⟨hle, hge⟩ := hm
    rcases Nat.lt_trichotomy j k with hlt | heq | hlt
    · have := Nat.mul_le_mul_right t (Nat.succ_le_of_lt hlt)
      rw [Nat.succ_mul] at this
      omega
    · exact heq
    · have := Nat.mul_le_mul_right t (Nat.succ_le_of_lt hlt)
      rw [Nat.succ_mul] at this
      omega
  split
  · next hn =>
    exact classify_eq_some_iff.mpr ⟨hk, hn, by simp [windowMatch_iff], fun j _ hlt hm => hlt.ne (hmatch hm)⟩
  · next hn =>
    exact classify_eq_none_iff.mpr fun j _ hj hm => hn (hmatch hm ▸ hj)

/-- The sampler gives the first level ahead, or an ERROR at a run of more than `MAX_UNITS` (R123). -/
theorem sample_levelsAhead {n : Nat} {s : State} {a : Level} {l : List Level} (he : s.tol.toNat < s.unit.toNat)
    (h : LevelsAhead n s (a :: l)) :
    ((sample s).1 = a.toSample ∧ LevelsAhead n (sample s).2 l) ∨
    (s.params.maxUnits < n ∧ (sample s).1 = .error ∧ (sample s).2 = s) := by
  obtain ⟨r, rs, hr, rfl, rfl⟩ := h.exists_run
  have hin := hr.off_lt
  obtain ⟨_, hholds, hbounds, hcursor⟩ := id hr
  by_cases hc : s.cur = 0
  · obtain ⟨hb, hw⟩ := hholds.head
    have hread : capRead s.off.toNat s = (r * s.unit.toNat, s) := hw ▸ if_pos hb
    obtain ⟨h1, hn⟩ := hbounds r List.mem_cons_self
    have hclass : classifyEntry s (capRead s.off.toNat s).1 = if r ≤ s.params.maxUnits then some r else none := by
      rw [hread]
      exact classify_mul he h1
    by_cases hm : r ≤ s.params.maxUnits
    · rw [sample_of_classified hin hc (hclass.trans (if_pos hm)), hread]
      exact .inl ⟨rfl, hr.advance⟩
    · rw [sample_of_unclassified hin hc (hclass.trans (if_neg hm)), hread]
      exact .inr ⟨by omega, rfl, rfl⟩
  · have hcur : s.cur = r := by
      rcases hcursor with ⟨h0, _⟩ | ⟨_, hhead⟩
      · exact absurd h0 hc
      · exact (Option.some.inj hhead).symm
    rw [sample_of_midEntry hin hc, hcur]
    exact .inl ⟨rfl, hr.advance⟩

/-! ### The engine's steps on a capture -/

/-- Nothing is pending, the tolerance is below the unit, and the sampler has these levels ahead. -/
def Ready (n : Nat) (s : State) (l : List Level) : Prop :=
  s.inbox = [] ∧ s.tol.toNat < s.unit.toNat ∧ LevelsAhead n s l

theorem sample_ready {n : Nat} {s : State} {a : Level} {l : List Level} (h : Ready n s (a :: l)) :
    ((sample s).1 = a.toSample ∧ Ready n (sample s).2 l) ∨
    (s.params.maxUnits < n ∧ (sample s).1 = .error ∧ (sample s).2 = s) := by
  obtain ⟨hi, he, hl⟩ := h
  refine (sample_levelsAhead he hl).imp_left fun ⟨hs, hu⟩ => ⟨hs, ?_, ?_, hu⟩
  · rwa [sample_inbox]
  · rwa [sample_tol, sample_unit]

section
variable {n : Nat} {s : State} {l : List Level} (h : Ready n s l)
include h

/-! What the engine writes once its sample is taken leaves the levels ahead. -/

theorem ready_initBits : Ready n (initBits s) l := h

theorem ready_latchLevel (a : Level) : Ready n (latchLevel a s) l := h

theorem ready_takeBit (b : Bool) : Ready n (takeBit b s) l := h

end

theorem step_start {s : State} (hf : s.fsm = .start) (hi : s.inbox = []) :
    step s = .next (startStep (sample s).1 (sample s).2) := by
  rw [step_nil hi, engineTurn_eq, hf]

theorem step_pairA {s : State} (hf : s.fsm = .pairA) (hi : s.inbox = []) : step s = .next (pairAStep s) := by
  rw [step_nil hi, engineTurn_eq, hf]

theorem step_pairB {s : State} (hf : s.fsm = .pairB) (hi : s.inbox = []) :
    step s = .next (secondHalf (sample s).1 (sample s).2) := by
  rw [step_nil hi, engineTurn_eq, hf]

/-- START takes the start mark, or ends at an ERROR. -/
theorem step_start_ready {n : Nat} {s : State} {l : List Level} (hf : s.fsm = .start) (h : Ready n s (.mark :: l)) :
    (step s = .next (initBits (sample s).2) ∧ Ready n (sample s).2 l) ∨
    (s.params.maxUnits < n ∧ step s = .next (complete .malformed .sampler s)) := by
  obtain ⟨hi, _⟩ := id h
  rw [step_start hf hi]
  rcases sample_ready h with ⟨hs, hu⟩ | ⟨hn, hs, hu⟩
  · exact .inl ⟨by rw [hs]; rfl, hu⟩
  · exact .inr ⟨hn, by rw [hs, hu]; rfl⟩

/-- PAIR_A latches the first half of a pair, or ends at an ERROR. -/
theorem step_pairA_ready {n : Nat} {s : State} {p : Level × Level} {ps : List (Level × Level)} (hf : s.fsm = .pairA)
    (h : Ready n s (dropFinalSpace (pairLevels (p :: ps)))) :
    (step s = .next (latchLevel p.1 (sample s).2) ∧ Ready n (sample s).2 (dropFinalSpace (p.2 :: pairLevels ps))) ∨
    (s.params.maxUnits < n ∧ step s = .next (complete .malformed .sampler s)) := by
  rw [dropFinalSpace_pairLevels_cons] at h
  obtain ⟨hi, _, hl⟩ := id h
  obtain ⟨r, rs, hr, _⟩ := hl.exists_run
  rw [step_pairA hf hi, pairAStep_of_inside hr.off_lt]
  rcases sample_ready h with ⟨hs, hu⟩ | ⟨hn, hs, hu⟩
  · refine .inl ⟨?_, hu⟩
    rw [hs]
    cases p.1 <;> rfl
  · exact .inr ⟨hn, by rw [hs, hu]; rfl⟩

/-- PAIR_B decodes the pair, a SPACE that ran into the silence counted as one (R145), or ends at an ERROR. -/
theorem step_pairB_ready {n : Nat} {s : State} {b : Level} {l : List Level} (hf : s.fsm = .pairB)
    (h : Ready n s (dropFinalSpace (b :: l))) :
    (step s = .next (applyPair (pairDecode s.lvlA b) (sample s).2) ∧ Ready n (sample s).2 (dropFinalSpace l)) ∨
    (s.params.maxUnits < n ∧ step s = .next (complete .malformed .sampler s)) := by
  obtain ⟨hi, _⟩ := id h
  rw [step_pairB hf hi]
  rcases dropFinalSpace_cons_cases b l with hd | ⟨rfl, rfl, hd⟩ <;> rw [hd] at h
  · rcases sample_ready h with ⟨hs, hu⟩ | ⟨hn, hs, hu⟩
    · refine .inl ⟨?_, hu⟩
      rw [hs, ← sample_lvlA s]
      cases b <;> rfl
    · exact .inr ⟨hn, by rw [hs, hu]; rfl⟩
  · obtain ⟨_, _, hl⟩ := id h
    rw [sample_of_end hl.end_of_nil]
    exact .inl ⟨rfl, h⟩

/-- A decode of a capture starts: LENCHK accepts its length, and START has all its levels ahead. -/
theorem step_lenchk_ready {n : Nat} {s : State} {l : List Level} (hf : s.fsm = .lenchk) (hi : s.inbox = [])
    (he : s.tol.toNat < s.unit.toNat) (hcap : HoldsCapture s (.mark :: l))
    (hlen : 14 ≤ s.rawlen.toNat ∧ s.rawlen.toNat ≤ 48) (hn : ∀ r ∈ runLengths (.mark :: l), r ≤ n) :
    step s = .next (initCursor s) ∧ Ready n (initCursor s) (.mark :: l) := by
  have hacc : ¬lengthRejects s.rawlen.toNat s.lcm = true := by
    rw [lengthRejects_iff]
    omega
  obtain ⟨hframe, hentries⟩ := hcap
  refine ⟨by rw [step_nil hi, engineTurn_eq, hf]; exact congrArg _ (lenchkStep_of_accepts hacc), hi, he,
    runLengths (.mark :: l), ⟨hframe, fun j hj => ?_, fun r hr => ⟨runLengths_pos hr, hn r hr⟩, .inl ⟨rfl, rfl⟩⟩, ?_⟩
  · have := hentries j hj
    rw [Nat.add_comm] at this
    exact this
  · exact (spreadRuns_runLengths (i := 1) l rfl).symm

/-! ### A frame of valid pairs -/

/-- The value with one more bit, modulo 2^23 (R147). -/
def appendBit (acc : Raw) (b : Bool) : Raw :=
  BitVec.ofNat 23 (2 * acc.toNat + b.toNat)

/-- The pair of a bit appends it (R146). -/
theorem applyPair_bitPair (b : Bool) (s : State) :
    applyPair (pairDecode (bitPair b).1 (bitPair b).2) s = takeBit b s := by
  cases b <;> rfl

theorem takeBit_eq (b : Bool) (s : State) : takeBit b s = { s with
    acc := appendBit s.acc b, nb := BitVec.ofNat 8 (s.nb.toNat + 1), fsm := .pairA } := by
  rw [takeBit, accumulate_eq, appendBit]

/-- A valid pair is decoded in two steps, where no run is longer than `MAX_UNITS`. -/
theorem stepN_valid_pair {n : Nat} {s : State} {b : Bool} {ps : List (Level × Level)} (hf : s.fsm = .pairA)
    (h : Ready n s (dropFinalSpace (pairLevels (bitPair b :: ps)))) (hn : n ≤ s.params.maxUnits) (k : Nat) :
    ∃ t, stepN (k + 2) s = stepN k t ∧ t.fsm = .pairA ∧ Ready n t (dropFinalSpace (pairLevels ps)) ∧
      t.acc = appendBit s.acc b ∧ t.nb = BitVec.ofNat 8 (s.nb.toNat + 1) ∧ t.params = s.params := by
  rcases step_pairA_ready hf h with ⟨hs, hu⟩ | ⟨hlt, _⟩
  · rcases step_pairB_ready (latchLevel_fsm _ _) (ready_latchLevel hu _) with ⟨ht, hv⟩ | ⟨hlt, _⟩
    · rw [latchLevel_lvlA, applyPair_bitPair] at ht
      refine ⟨_, ?_, takeBit_fsm _ _, ready_takeBit hv b, ?_, ?_, ?_⟩
      · rw [stepN_succ_of_step hs, stepN_succ_of_step ht]
      all_goals simp [takeBit_eq]
    · rw [latchLevel_params, sample_params] at hlt
      omega
  · omega

/-- From PAIR_A the pairs of the last bits of 23 decode to SUCCESS, in two steps a bit and one for the end (R160). -/
theorem stepN_valid_pairs {n : Nat} {s : State} {bs : List Bool} (hf : s.fsm = .pairA)
    (h : Ready n s (dropFinalSpace (pairLevels (bs.map bitPair)))) (hn : n ≤ s.params.maxUnits)
    (hnb : s.nb.toNat + bs.length = 23) :
    ∃ t, stepN (2 * bs.length + 1) s = .next t ∧ t.fsm = .idle ∧ t.done = true ∧ t.result = .success ∧
      t.rawval = bs.foldl appendBit s.acc := by
  induction bs generalizing s with
  | nil =>
    obtain ⟨hi, _, hl⟩ := h
    have h23 : s.nb.toNat = 23 := hnb
    have hend : pairAStep s = complete .success .none s := by
      rw [pairAStep_of_end hl.end_of_nil, finishFrame_eq, if_pos h23, if_pos h23]
    refine ⟨complete .success .none s, ?_, rfl, rfl, rfl, rfl⟩
    exact stepN_succ_of_step (k := 0) ((step_pairA hf hi).trans (congrArg _ hend))
  | cons b bs ih =>
    obtain ⟨t, ht, htf, hr, hacc, htnb, hp⟩ := stepN_valid_pair hf h hn (2 * bs.length + 1)
    rw [List.length_cons] at hnb
    obtain ⟨u, hu, huf, hud, hur, huv⟩ := ih htf hr (hp ▸ hn) (by rw [htnb, BitVec.toNat_ofNat]; omega)
    exact ⟨u, ht.trans hu, huf, hud, hur, by rw [huv, hacc, List.foldl_cons]⟩

/-- The bits of a value, the most significant first, append to it (R147). -/
theorem foldl_appendBit_range (v : Raw) (j : Nat) (hj : j ≤ 23) :
    ((List.range j).map fun k => v.getLsbD (23 - 1 - k)).foldl appendBit 0 =
      BitVec.ofNat 23 (v.toNat / 2 ^ (23 - j)) := by
  induction j with
  | zero =>
    rw [Nat.sub_zero, Nat.div_eq_of_lt v.isLt]
    rfl
  | succ j ih =>
    have hshift : 23 - j = 23 - (j + 1) + 1 := by omega
    have hbit : (v.getLsbD (23 - 1 - j)).toNat = v.toNat / 2 ^ (23 - (j + 1)) % 2 := by
      rw [BitVec.getLsbD, Nat.toNat_testBit, show 23 - 1 - j = 23 - (j + 1) by omega]
    have hlt : v.toNat / 2 ^ (23 - j) < 2 ^ 23 := (Nat.div_le_self _ _).trans_lt v.isLt
    rw [List.range_succ, List.map_append, List.foldl_append, ih (by omega), List.map_singleton, List.foldl_cons,
      List.foldl_nil, appendBit, BitVec.toNat_ofNat, Nat.mod_eq_of_lt hlt, hbit, hshift, Nat.pow_succ,
      ← Nat.div_div_eq_div_mul, Nat.div_add_mod]

theorem foldl_appendBit_frameBits (v : Raw) : (frameBits v).foldl appendBit 0 = v := by
  refine (foldl_appendBit_range v 23 (Nat.le_refl 23)).trans ?_
  rw [Nat.sub_self, Nat.pow_zero, Nat.div_one, BitVec.ofNat_toNat, BitVec.setWidth_eq]

/-- The pairs of a frame value. -/
def framePairs (v : Raw) : List (Level × Level) :=
  (frameBits v).map bitPair

theorem length_frameBits (v : Raw) : (frameBits v).length = 23 := by
  simp [frameBits]

/-- The capture of 23 pairs after the start mark. -/
theorem dropFinalSpace_frame {ps : List (Level × Level)} (h : ps.length = 23) :
    dropFinalSpace (.mark :: pairLevels ps) = .mark :: dropFinalSpace (pairLevels ps) := by
  refine dropFinalSpace_cons (fun hnil => ?_) _
  have := length_pairLevels ps
  rw [hnil, h] at this
  cases this

theorem frameLevels_eq (v : Raw) : frameLevels v = .mark :: pairLevels (framePairs v) := by
  rw [frameLevels, pairLevels, framePairs, List.flatMap_map]
  exact congrArg _ (congrArg₂ _ (funext bitLevels_eq) rfl)

/-- The length of a capture of 23 pairs, of which at least `m` are valid. -/
theorem rawlen_bounds {s : State} {ps : List (Level × Level)} (hps : ps.length = 23) {m : Nat}
    (hm : m ≤ ps.countP fun p => p.1 ≠ p.2) (h : HoldsCapture s (.mark :: dropFinalSpace (pairLevels ps))) :
    m + 1 ≤ s.rawlen.toNat ∧ s.rawlen.toNat ≤ 48 := by
  obtain ⟨hframe, _⟩ := h
  have hlow := countP_le_length_runLengths ps .mark
  have hhigh := length_runLengths_le (.mark :: dropFinalSpace (pairLevels ps))
  have hdrop := length_dropFinalSpace_le (pairLevels ps)
  rw [length_pairLevels, hps] at hdrop
  rw [List.length_cons] at hhigh
  omega

/-- Settles O58: the length check, the start mark, and then the 23 pairs of the value. -/
theorem encodedFrameDecodesToItsValue : Obligations.EncodedFrameDecodesToItsValue := by
  intro s v hf hi hm _ he hcap
  have hlen : (framePairs v).length = 23 := by rw [framePairs, List.length_map, length_frameBits]
  have hvalid : ∀ p ∈ framePairs v, p.1 ≠ p.2 := by
    intro p hp
    obtain ⟨b, _, rfl⟩ := List.mem_map.mp hp
    exact bitPair_ne b
  have hcount : (framePairs v).countP (fun p => p.1 ≠ p.2) = 23 :=
    (List.countP_eq_length.mpr fun p hp => decide_eq_true (hvalid p hp)).trans hlen
  rw [frameLevels_eq, dropFinalSpace_frame hlen] at hcap
  obtain ⟨hlow, hhigh⟩ := rawlen_bounds hlen hcount.ge hcap
  refine ⟨hlow, hhigh, ?_⟩
  obtain ⟨h1, hr1⟩ := step_lenchk_ready (n := 2) (s := { clearResults s with fsm := .lenchk }) rfl hi he hcap
    ⟨Nat.le_of_lt (by change 14 < s.rawlen.toNat; omega), hhigh⟩ (runLengths_le_two hvalid .mark)
  rcases step_start_ready (s := initCursor { clearResults s with fsm := .lenchk }) rfl hr1 with ⟨h2, hr2⟩ | ⟨hlt, _⟩
  · obtain ⟨t, ht, htf, htd, htr, htv⟩ := stepN_valid_pairs (bs := frameBits v) (initBits_fsm _) (ready_initBits hr2)
      (by simpa using hm) (by rw [length_frameBits]; rfl)
    rw [length_frameBits] at ht
    refine ⟨t, ?_, htf, htd, htr, by rw [htv]; exact foldl_appendBit_frameBits v⟩
    rw [startDecode_of_idle hf]
    exact (stepN_succ_of_step h1).trans ((stepN_succ_of_step h2).trans ht)
  · exact absurd hm (Nat.not_le.mpr hlt)

/-! ### A frame with a same-level pair -/

/-- The decode has ended MALFORMED, with reason PAIR or SAMPLER where DIAG_EN is `d`. -/
def EndsMalformed (d : Bool) (t : State) : Prop :=
  t.fsm = .idle ∧ t.done = true ∧ t.result = .malformed ∧ t.rawval = 0 ∧
    (d = true → t.diagReason = .pair ∨ t.diagReason = .sampler)

theorem endsMalformed_complete {q : Reason} (hq : q = .pair ∨ q = .sampler) (s : State) :
    EndsMalformed s.diagEn (complete .malformed q s) := by
  rw [complete_eq]
  exact ⟨rfl, rfl, rfl, rfl, fun hd => by simpa [hd] using hq⟩

/-- From PAIR_A a same-level pair, or an ERROR before it, ends the decode MALFORMED within two steps a pair (R161). -/
theorem stepN_invalid_pairs {n : Nat} {s : State} {ps : List (Level × Level)} (hf : s.fsm = .pairA)
    (h : Ready n s (dropFinalSpace (pairLevels ps))) (hbad : ∃ p ∈ ps, p.1 = p.2) :
    ∃ k t, k ≤ 2 * ps.length ∧ stepN k s = .next t ∧ EndsMalformed s.diagEn t := by
  induction ps generalizing s with
  | nil => simp at hbad
  | cons p ps ih =>
    rw [List.length_cons]
    rcases step_pairA_ready hf h with ⟨hs, hu⟩ | ⟨_, hs⟩
    · have hd : (sample (latchLevel p.1 (sample s).2)).2.diagEn = s.diagEn := by simp
      rcases step_pairB_ready (latchLevel_fsm _ _) (ready_latchLevel hu p.1) with ⟨ht, hv⟩ | ⟨_, ht⟩
      · rw [latchLevel_lvlA] at ht
        rcases applyPair_cases p.1 p.2 (sample (latchLevel p.1 (sample s).2)).2 with ⟨hne, ha⟩ | ⟨_, ha⟩ <;>
          rw [ha] at ht
        · have hrest : ∃ q ∈ ps, q.1 = q.2 := by
            obtain ⟨q, hq, heq⟩ := hbad
            rcases List.mem_cons.mp hq with rfl | hq
            · exact absurd heq hne
            · exact ⟨q, hq, heq⟩
          obtain ⟨k, t, hk, hkt, hend⟩ := ih (takeBit_fsm _ _) (ready_takeBit hv _) hrest
          rw [takeBit_diagEn, hd] at hend
          exact ⟨k + 2, t, by omega, (stepN_succ_of_step hs).trans ((stepN_succ_of_step ht).trans hkt), hend⟩
        · exact ⟨2, _, by omega, (stepN_succ_of_step hs).trans (stepN_succ_of_step (k := 0) ht),
            hd ▸ endsMalformed_complete (.inl rfl) _⟩
      · have hd' : (latchLevel p.1 (sample s).2).diagEn = s.diagEn := by simp
        exact ⟨2, _, by omega, (stepN_succ_of_step hs).trans (stepN_succ_of_step (k := 0) ht),
          hd' ▸ endsMalformed_complete (.inr rfl) _⟩
    · exact ⟨1, _, by omega, stepN_succ_of_step (k := 0) hs, endsMalformed_complete (.inr rfl) s⟩

/-- The pairs of a frame value, pair `j` of them made `x`, `x`. -/
def corruptPairs (v : Raw) (j : Nat) (x : Level) : List (Level × Level) :=
  (frameBits v).zipIdx.map fun p => if p.2 = j then (x, x) else bitPair p.1

theorem corruptLevels_eq (v : Raw) (j : Nat) (x : Level) :
    corruptLevels v j x = .mark :: pairLevels (corruptPairs v j x) := by
  rw [corruptLevels, pairLevels, corruptPairs, List.flatMap_map]
  refine congrArg _ (congrArg₂ _ (funext fun p => ?_) rfl)
  split
  · rfl
  · exact bitLevels_eq p.1

theorem length_corruptPairs (v : Raw) (j : Nat) (x : Level) : (corruptPairs v j x).length = 23 := by
  rw [corruptPairs, List.length_map, List.length_zipIdx, length_frameBits]

theorem mem_corruptPairs {j : Nat} (hj : j < 23) (v : Raw) (x : Level) : (x, x) ∈ corruptPairs v j x := by
  have hlen : j < (frameBits v).length := by rwa [length_frameBits]
  refine List.mem_map.mpr ⟨((frameBits v)[j], j), ?_, if_pos rfl⟩
  exact List.mem_zipIdx_iff_getElem?.mpr (List.getElem?_eq_getElem hlen)

/-- All pairs but the corrupted one are valid. -/
theorem countP_corruptPairs (v : Raw) {j : Nat} (hj : j < 23) (x : Level) :
    22 ≤ (corruptPairs v j x).countP fun p => p.1 ≠ p.2 := by
  have hcount : ∀ i < 23, (List.range' 0 23).countP (fun k => k ≠ i) = 22 := by decide
  have hindex : ((frameBits v).zipIdx.map Prod.snd) = List.range' 0 23 := by
    rw [List.zipIdx_map_snd, length_frameBits]
  rw [← hcount j hj, ← hindex, List.countP_map, corruptPairs, List.countP_map]
  refine List.countP_mono_left fun p _ hp => ?_
  have hne : p.2 ≠ j := of_decide_eq_true hp
  simp [hne, bitPair_ne]

/-- Settles O59: the length check, the start mark, and then the pairs up to the corrupted one, or an ERROR before. -/
theorem corruptedPairIsCaught : Obligations.CorruptedPairIsCaught := by
  intro s v j x hf hi _ _ he hj hcap
  have hlen := length_corruptPairs v j x
  rw [corruptLevels_eq, dropFinalSpace_frame hlen] at hcap
  obtain ⟨hlow, hhigh⟩ := rawlen_bounds hlen (countP_corruptPairs v hj x) hcap
  obtain ⟨h1, hr1⟩ := step_lenchk_ready (s := { clearResults s with fsm := .lenchk }) rfl hi he hcap
    ⟨Nat.le_of_lt (by change 14 < s.rawlen.toNat; omega), hhigh⟩ fun _ => runLengths_le_length
  have hd : (initCursor { clearResults s with fsm := .lenchk }).diagEn = s.diagEn := rfl
  rw [startDecode_of_idle hf]
  rcases step_start_ready (initCursor_fsm _) hr1 with ⟨h2, hr2⟩ | ⟨_, h2⟩
  · obtain ⟨k, t, hk, ht, hend⟩ :=
      stepN_invalid_pairs (initBits_fsm _) (ready_initBits hr2) ⟨_, mem_corruptPairs hj v x, rfl⟩
    rw [hlen] at hk
    rw [initBits_diagEn, sample_diagEn, hd] at hend
    exact ⟨k + 2, t, by omega, (stepN_succ_of_step h1).trans ((stepN_succ_of_step h2).trans ht), hend⟩
  · exact ⟨2, _, by decide, (stepN_succ_of_step h1).trans (stepN_succ_of_step (k := 0) h2),
      hd ▸ endsMalformed_complete (.inr rfl) _⟩

end Sys2Proof.Machine
end
